-- ==== Sys2Proof/Word.lean ====
section
/-! DEFINITION. The two word types of the block (00_scope.md R4, R6): bytes and 16-bit words. -/

namespace Sys2Proof

/-- A `u8` of the spec (00_scope.md R6): a general register, a memory cell, an instruction byte. -/
abbrev Byte := BitVec 8

/-- A `u16` of the spec (00_scope.md R6): `PC`, `SP`, a register pair, a bus address. -/
abbrev Word := BitVec 16

end Sys2Proof
end

