-- ==== Sys2Proof/Syntax.lean ====
section
/-! DEFINITION. The instruction set as syntax: one constructor of `Instr` per row of spec/opcode_table.json (30_encoding.md R87 to
R89), the operand fields of an opcode (R84, R85), and `Form`, an instruction by its operand fields. -/

namespace Sys2Proof

/-- The register values of the 3-bit field (30_encoding.md R84); value 6, the byte at HL, is a form of its own. -/
inductive Reg8 where
  | b | c | d | e | h | l | a
  deriving DecidableEq, Repr

/-- The pair field `rr` (30_encoding.md R85). -/
inductive RegPair where
  | bc | de | hl | sp
  deriving DecidableEq, Repr

/-- The pair field `rr2` of pushes and pops (30_encoding.md R85). -/
inductive StackPair where
  | bc | de | hl | af
  deriving DecidableEq, Repr

/-- The condition field `cc` (30_encoding.md R85). -/
inductive Cond where
  | nz | z | nc | c
  deriving DecidableEq, Repr

/-- The field `alu` (30_encoding.md R85): ADD, ADC, SUB, SBC, AND, XOR, OR, CP. -/
inductive AluOp where
  | add | adc | sub | sbc | land | lxor | lor | cp
  deriving DecidableEq, Repr

/-- The field `rot` of a secondary opcode (30_encoding.md R85). -/
inductive RotOp where
  | rlc | rrc | rl | rr | sla | sra | swap | srl
  deriving DecidableEq, Repr

/-- A 3-bit number: the field `bit` or the restart number `n` (30_encoding.md R85). -/
inductive Bit3 where
  | b0 | b1 | b2 | b3 | b4 | b5 | b6 | b7
  deriving DecidableEq, Repr

/-- The instructions, one constructor per row of spec/opcode_table.json: first the rows with an immediate (Lean wants the
constructors with fields early), then the others, primary table before secondary, each in the table's order.
`n` is an 8-bit immediate (`d8`, `a8`), `e` a displacement byte (`r8`), `nn` a 16-bit immediate (`d16`, `a16`). -/
inductive Instr where
  -- opcodes followed by an immediate
  | ldBcD16 (nn : Word) | ldBD8 (n : Byte) | ldAtA16Sp (nn : Word) | ldCD8 (n : Byte)
  | stop (n : Byte) | ldDeD16 (nn : Word) | ldDD8 (n : Byte) | jrR8 (e : Byte)
  | ldED8 (n : Byte) | jrNzR8 (e : Byte) | ldHlD16 (nn : Word) | ldHD8 (n : Byte)
  | jrZR8 (e : Byte) | ldLD8 (n : Byte) | jrNcR8 (e : Byte) | ldSpD16 (nn : Word)
  | ldAtHlD8 (n : Byte) | jrCR8 (e : Byte) | ldAD8 (n : Byte) | jpNzA16 (nn : Word)
  | jpA16 (nn : Word) | callNzA16 (nn : Word) | addAD8 (n : Byte) | jpZA16 (nn : Word)
  | callZA16 (nn : Word) | callA16 (nn : Word) | adcAD8 (n : Byte) | jpNcA16 (nn : Word)
  | callNcA16 (nn : Word) | subD8 (n : Byte) | jpCA16 (nn : Word) | callCA16 (nn : Word)
  | sbcAD8 (n : Byte) | ldhAtA8A (n : Byte) | andD8 (n : Byte) | addSpR8 (e : Byte)
  | ldAtA16A (nn : Word) | xorD8 (n : Byte) | ldhAAtA8 (n : Byte) | orD8 (n : Byte)
  | ldHlSpR8 (e : Byte) | ldAAtA16 (nn : Word) | cpD8 (n : Byte)
  -- 0x
  | nop | ldAtBcA | incBc | incB | decB | rlca | addHlBc | ldAAtBc
  | decBc | incC | decC | rrca
  -- 1x
  | ldAtDeA | incDe | incD | decD | rla | addHlDe | ldAAtDe | decDe
  | incE | decE | rra
  -- 2x
  | ldAtHliA | incHl | incH | decH | daa | addHlHl | ldAAtHli | decHl
  | incL | decL | cpl
  -- 3x
  | ldAtHldA | incSp | incAtHl | decAtHl | scf | addHlSp | ldAAtHld | decSp
  | incA | decA | ccf
  -- 4x
  | ldBB | ldBC | ldBD | ldBE | ldBH | ldBL | ldBAtHl | ldBA
  | ldCB | ldCC | ldCD | ldCE | ldCH | ldCL | ldCAtHl | ldCA
  -- 5x
  | ldDB | ldDC | ldDD | ldDE | ldDH | ldDL | ldDAtHl | ldDA
  | ldEB | ldEC | ldED | ldEE | ldEH | ldEL | ldEAtHl | ldEA
  -- 6x
  | ldHB | ldHC | ldHD | ldHE | ldHH | ldHL | ldHAtHl | ldHA
  | ldLB | ldLC | ldLD | ldLE | ldLH | ldLL | ldLAtHl | ldLA
  -- 7x
  | ldAtHlB | ldAtHlC | ldAtHlD | ldAtHlE | ldAtHlH | ldAtHlL | halt | ldAtHlA
  | ldAB | ldAC | ldAD | ldAE | ldAH | ldAL | ldAAtHl | ldAA
  -- 8x
  | addAB | addAC | addAD | addAE | addAH | addAL | addAAtHl | addAA
  | adcAB | adcAC | adcAD | adcAE | adcAH | adcAL | adcAAtHl | adcAA
  -- 9x
  | subB | subC | subD | subE | subH | subL | subAtHl | subA
  | sbcAB | sbcAC | sbcAD | sbcAE | sbcAH | sbcAL | sbcAAtHl | sbcAA
  -- Ax
  | andB | andC | andD | andE | andH | andL | andAtHl | andA
  | xorB | xorC | xorD | xorE | xorH | xorL | xorAtHl | xorA
  -- Bx
  | orB | orC | orD | orE | orH | orL | orAtHl | orA
  | cpB | cpC | cpD | cpE | cpH | cpL | cpAtHl | cpA
  -- Cx
  | retNz | popBc | pushBc | rst00 | retZ | ret | prefixCb | rst08
  -- Dx
  | retNc | popDe | undefD3 | pushDe | rst10 | retC | reti | undefDB
  | undefDD | rst18
  -- Ex
  | popHl | ldAtCA | undefE3 | undefE4 | pushHl | rst20 | jpAtHl | undefEB
  | undefEC | undefED | rst28
  -- Fx
  | popAf | ldAAtC | di | undefF4 | pushAf | rst30 | ldSpHl | ei
  | undefFC | undefFD | rst38
  -- CB 0x
  | rlcB | rlcC | rlcD | rlcE | rlcH | rlcL | rlcAtHl | rlcA
  | rrcB | rrcC | rrcD | rrcE | rrcH | rrcL | rrcAtHl | rrcA
  -- CB 1x
  | rlB | rlC | rlD | rlE | rlH | rlL | rlAtHl | rlA
  | rrB | rrC | rrD | rrE | rrH | rrL | rrAtHl | rrA
  -- CB 2x
  | slaB | slaC | slaD | slaE | slaH | slaL | slaAtHl | slaA
  | sraB | sraC | sraD | sraE | sraH | sraL | sraAtHl | sraA
  -- CB 3x
  | swapB | swapC | swapD | swapE | swapH | swapL | swapAtHl | swapA
  | srlB | srlC | srlD | srlE | srlH | srlL | srlAtHl | srlA
  -- CB 4x
  | bit0B | bit0C | bit0D | bit0E | bit0H | bit0L | bit0AtHl | bit0A
  | bit1B | bit1C | bit1D | bit1E | bit1H | bit1L | bit1AtHl | bit1A
  -- CB 5x
  | bit2B | bit2C | bit2D | bit2E | bit2H | bit2L | bit2AtHl | bit2A
  | bit3B | bit3C | bit3D | bit3E | bit3H | bit3L | bit3AtHl | bit3A
  -- CB 6x
  | bit4B | bit4C | bit4D | bit4E | bit4H | bit4L | bit4AtHl | bit4A
  | bit5B | bit5C | bit5D | bit5E | bit5H | bit5L | bit5AtHl | bit5A
  -- CB 7x
  | bit6B | bit6C | bit6D | bit6E | bit6H | bit6L | bit6AtHl | bit6A
  | bit7B | bit7C | bit7D | bit7E | bit7H | bit7L | bit7AtHl | bit7A
  -- CB 8x
  | res0B | res0C | res0D | res0E | res0H | res0L | res0AtHl | res0A
  | res1B | res1C | res1D | res1E | res1H | res1L | res1AtHl | res1A
  -- CB 9x
  | res2B | res2C | res2D | res2E | res2H | res2L | res2AtHl | res2A
  | res3B | res3C | res3D | res3E | res3H | res3L | res3AtHl | res3A
  -- CB Ax
  | res4B | res4C | res4D | res4E | res4H | res4L | res4AtHl | res4A
  | res5B | res5C | res5D | res5E | res5H | res5L | res5AtHl | res5A
  -- CB Bx
  | res6B | res6C | res6D | res6E | res6H | res6L | res6AtHl | res6A
  | res7B | res7C | res7D | res7E | res7H | res7L | res7AtHl | res7A
  -- CB Cx
  | set0B | set0C | set0D | set0E | set0H | set0L | set0AtHl | set0A
  | set1B | set1C | set1D | set1E | set1H | set1L | set1AtHl | set1A
  -- CB Dx
  | set2B | set2C | set2D | set2E | set2H | set2L | set2AtHl | set2A
  | set3B | set3C | set3D | set3E | set3H | set3L | set3AtHl | set3A
  -- CB Ex
  | set4B | set4C | set4D | set4E | set4H | set4L | set4AtHl | set4A
  | set5B | set5C | set5D | set5E | set5H | set5L | set5AtHl | set5A
  -- CB Fx
  | set6B | set6C | set6D | set6E | set6H | set6L | set6AtHl | set6A
  | set7B | set7C | set7D | set7E | set7H | set7L | set7AtHl | set7A
  deriving DecidableEq, Repr

/-- An instruction by its operand fields: one constructor per rule of 41_load8.md to 48_cb_prefixed.md, or per rule and field
`alu` or `rot`. -/
inductive Form where
  -- 41_load8.md R130 to R148
  | ldRR (dst src : Reg8) | ldRD8 (dst : Reg8) (n : Byte) | ldRAtHl (dst : Reg8) | ldAtHlR (src : Reg8) | ldAtHlD8 (n : Byte)
  | ldAAtBc | ldAAtDe | ldAtBcA | ldAtDeA
  | ldAAtA16 (nn : Word) | ldAtA16A (nn : Word) | ldhAtA8A (n : Byte) | ldhAAtA8 (n : Byte) | ldAtCA | ldAAtC
  | ldAtHliA | ldAAtHli | ldAtHldA | ldAAtHld
  -- 42_load16.md R150 to R155
  | ldRrD16 (p : RegPair) (nn : Word) | ldAtA16Sp (nn : Word) | ldSpHl | ldHlSpR8 (e : Byte)
  | push (p : StackPair) | pop (p : StackPair)
  -- 43_alu8.md R160 to R191
  | aluR (op : AluOp) (src : Reg8) | aluAtHl (op : AluOp) | aluD8 (op : AluOp) (n : Byte)
  | incR (dst : Reg8) | incAtHl | decR (dst : Reg8) | decAtHl | daa | cpl | scf | ccf
  -- 44_alu16.md R200 to R203
  | addHlRr (p : RegPair) | incRr (p : RegPair) | decRr (p : RegPair) | addSpR8 (e : Byte)
  -- 45_rotate_a.md R205 to R208
  | rlca | rrca | rla | rra
  -- 46_control.md R210 to R220
  | jp (nn : Word) | jpCc (cc : Cond) (nn : Word) | jpAtHl | jr (e : Byte) | jrCc (cc : Cond) (e : Byte)
  | call (nn : Word) | callCc (cc : Cond) (nn : Word) | ret | retCc (cc : Cond) | reti | rst (n : Bit3)
  -- 47_system.md R225 to R231
  | nop | stop (n : Byte) | halt | di | ei | prefixCb | undef (op : Byte)
  -- 48_cb_prefixed.md R236 to R257
  | rotR (op : RotOp) (r : Reg8) | rotAtHl (op : RotOp)
  | bitR (b : Bit3) (r : Reg8) | bitAtHl (b : Bit3) | resR (b : Bit3) (r : Reg8) | resAtHl (b : Bit3)
  | setR (b : Bit3) (r : Reg8) | setAtHl (b : Bit3)
  deriving DecidableEq, Repr


end Sys2Proof
end

