-- ==== Sys2Proof/Machine/Bits.lean ====
section
/-! DEFINITION. Bit-field, sign-extension and byte-order helpers (00_scope.md R6). -/

namespace Sys2Proof

/-- `hi(w) = w[15:8]` (00_scope.md R6). -/
def hiByte (w : Word) : Byte := w.extractLsb' 8 8

/-- `lo(w) = w[7:0]` (00_scope.md R6). -/
def loByte (w : Word) : Byte := w.extractLsb' 0 8

/-- `{h, l}`, the word of a high and a low byte (00_scope.md R6, 10_state.md R12). -/
def joinBytes (h l : Byte) : Word := h ++ l

/-- `sext_16(b)` (00_scope.md R6): the two's complement value of a signed byte. -/
def sext16 (b : Byte) : Word := b.signExtend 16

/-- `zext_16(b)` (00_scope.md R6). -/
def zext16 (b : Byte) : Word := b.setWidth 16

/-- Address `0xFF00 + b` of the top page, `{0xFF, b}` (30_encoding.md R83). -/
def highPage (b : Byte) : Word := joinBytes 0xFF b

/-- The 8-bit mask `1 << b` (48_cb_prefixed.md R254, R256). -/
def bitMask (b : Nat) : Byte := 1#8 <<< b

/-- The number of a 3-bit field (30_encoding.md R85). -/
def Bit3.val : Bit3 → Nat
  | .b0 => 0
  | .b1 => 1
  | .b2 => 2
  | .b3 => 3
  | .b4 => 4
  | .b5 => 5
  | .b6 => 6
  | .b7 => 7

end Sys2Proof
end

