-- ==== Sys2Proof/Config.lean ====
section
/-! DEFINITION. What is fixed for the machine: the sizes of the address map (00_scope.md R4), the values `Reset` gives
(70_reset_and_hazards.md R291, R292) and what a cell that nothing has written reads as (log 4). The two open
parameters of the spec, IMAGE and RAM_INIT (00_scope.md R5), are not here: they are arguments of `State.powerOn` and of
the command `Load`. The spec leaves no result of an instruction open, so there is no free value. -/

namespace Sys2Proof.Config

/-- ROM bank size, 16 KB (00_scope.md R4). -/
def bankSize : Nat := 0x4000

/-- First address of the flat RAM; everything below is ROM space (20_memory.md R41). -/
def ramBase : Nat := 0x8000

/-- Size of the address space (20_memory.md R40). -/
def spaceSize : Nat := 0x10000

/-- The longest instruction, in bytes (30_encoding.md R80). -/
def longestInstr : Nat := 3

/-- The smallest image `Load` accepts (20_memory.md R62). -/
def minImageSize : Nat := 0x0150

/-- DESIGN CHOICE (log 4, unsafe). What a RAM cell that no list entry names reads as. The spec leaves the content of RAM at
power-on open (RAM_INIT, 70_reset_and_hazards.md R297): any content is a state, and only `State.reset` uses this byte for
cells that nothing has written. It is also the byte the sparse form of an image leaves out (log 10). -/
def unlistedByte : Byte := 0x00

/-! The ten registers after `Reset` (70_reset_and_hazards.md R291). UNVERIFIED: the spec's decision D13 (log 6). -/
def resetA : Byte := 0x01
def resetF : Byte := 0xB0
def resetB : Byte := 0x00
def resetC : Byte := 0x13
def resetD : Byte := 0x00
def resetE : Byte := 0xD8
def resetH : Byte := 0x01
def resetL : Byte := 0x4D
def resetSP : Word := 0xFFFE
def resetPC : Word := 0x0100

/-- The 31 cells `Reset` seeds, by bus address (70_reset_and_hazards.md R292). UNVERIFIED: decision D14 (log 6). -/
def resetSeeds : List Host.Cell :=
  [(0xFF05, 0x00), (0xFF06, 0x00), (0xFF07, 0x00), (0xFF10, 0x80), (0xFF11, 0xBF), (0xFF12, 0xF3), (0xFF14, 0xBF),
   (0xFF16, 0x3F), (0xFF17, 0x00)] ++
  [(0xFF19, 0xBF), (0xFF1A, 0x7F), (0xFF1B, 0xFF), (0xFF1C, 0x9F), (0xFF1E, 0xBF), (0xFF20, 0xFF), (0xFF21, 0x00),
   (0xFF22, 0x00), (0xFF23, 0xBF), (0xFF24, 0x77), (0xFF25, 0xF3)] ++
  [(0xFF26, 0xF1), (0xFF40, 0x91), (0xFF42, 0x00), (0xFF43, 0x00), (0xFF45, 0x00), (0xFF47, 0xFC), (0xFF48, 0xFF),
   (0xFF49, 0xFF), (0xFF4A, 0x00), (0xFF4B, 0x00), (0xFFFF, 0x00)]

end Sys2Proof.Config
end

