-- ==== Sys2Proof/Machine/Memory.lean ====
section
/-! DEFINITION. Sparse byte stores as plain data: a list of (key, byte) pairs, keys strictly rising, no entry equal to what an
unlisted key reads as. RAM is one, keyed by bus address (10_state.md R32); a cartridge image's bytes are another, keyed by
image offset (20_memory.md R43). -/

namespace Sys2Proof.Machine.Cells

/-- The byte at a key; an unlisted key reads as `Config.unlistedByte` (log 4). -/
def read : List Host.Cell → Nat → Byte
  | [], _ => Config.unlistedByte
  | (k, v) :: m, a => if k = a then v else read m a

/-- Store a byte, keeping the canonical form: the unlisted byte is stored by removing the entry. -/
def write : List Host.Cell → Nat → Byte → List Host.Cell
  | [], a, v => if v = Config.unlistedByte then [] else [(a, v)]
  | (k, w) :: m, a, v =>
    if a < k then (if v = Config.unlistedByte then (k, w) :: m else (a, v) :: (k, w) :: m)
    else if a = k then (if v = Config.unlistedByte then m else (a, v) :: m)
    else (k, w) :: write m a v

/-- Store a list of (key, byte) pairs, first to last. -/
def writeAll : List Host.Cell → List Host.Cell → List Host.Cell
  | m, [] => m
  | m, (a, v) :: rest => writeAll (write m a v) rest

/-- The pairs of a run of bytes from a key on. -/
def run : Nat → List Byte → List Host.Cell
  | _, [] => []
  | a, v :: vs => (a, v) :: run (a + 1) vs

/-- The canonical form of a store whose keys lie in `lo ≤ key < hi`. -/
def wf (lo hi : Nat) : List Host.Cell → Bool
  | [] => true
  | (k, v) :: m => decide (lo ≤ k) && decide (k < hi) && decide (v ≠ Config.unlistedByte) && wf (k + 1) hi m

end Sys2Proof.Machine.Cells
end

