-- ==== Sys2Proof/Machine/State.lean ====
section
/-! DEFINITION. The state of the block (10_state.md R33) as plain data, the reasons a step can stop, and the state after
power-on (10_state.md R35). -/

namespace Sys2Proof.Machine

/-- The cartridge image IMAGE (20_memory.md R43): a list of `size` bytes, kept sparse (log 10). `size = 0` is a block without a
cartridge (20_memory.md R62, log 5). -/
structure Image where
  size  : Nat
  cells : List Host.Cell
  deriving DecidableEq, Repr

/-- No cartridge: the block before a successful `Load` (70_reset_and_hazards.md R290). -/
def Image.none : Image := { size := 0, cells := [] }

/-- The bank controller's addressing mode (10_state.md R29). -/
inductive BankMode where
  | romBanking
  | ramBanking
  deriving DecidableEq, Repr

/-- The four kinds of fault (60_exceptions.md R261), codes 1 to 4 in this order. -/
inductive FaultKind where
  | notImplemented
  | invalidArgument
  | outOfRange
  | loadValidationFailure
  deriving DecidableEq, Repr

/-- A fault record `{code, info}` (60_exceptions.md R261). -/
structure FaultRecord where
  kind : FaultKind
  info : Nat
  deriving DecidableEq, Repr

/-- An InstructionInstance (10_state.md R22). `desc` is no field: it is a function of `opcode` and `params` (see
`InstrRecord.desc`). `valid` is no field: the record is an `Option` in `State`. -/
structure InstrRecord where
  opcode   : Byte
  params   : List Byte
  fetch    : Nat
  cycle    : Nat
  complete : Bool
  deriving DecidableEq, Repr

/-- The complete state of the block (10_state.md R33), with the parameter IMAGE beside it (log 5). -/
structure State where
  a : Byte
  b : Byte
  c : Byte
  d : Byte
  e : Byte
  h : Byte
  l : Byte
  f : Byte
  sp : Word
  pc : Word
  cur : Option InstrRecord
  last : Option InstrRecord
  fault : Option FaultRecord
  ramEnable : Bool
  romBank : BitVec 7
  ramBank : BitVec 2
  mode : BankMode
  bpEn : Bool
  bpAddr : Word
  ram : List Host.Cell
  image : Image
  deriving DecidableEq, Repr

/-- Why a step stops with a fault. -/
inductive Fault where
  /-- Raised by `step` and `engineStep` on a state whose fault latch is set: `Faulted`, no state change (60_exceptions.md R263).
  Safe: the spec's own stuck state. -/
  | latched (r : FaultRecord)
  deriving DecidableEq, Repr

/-- Why a step is refused. -/
inductive Refusal where
  /-- An instruction without a meaning. No arm of `exec` answers it. Safe. -/
  | notModelled (mnemonic : String)
  /-- Raised by `step`, `engineStep` and the command `Reset` when no cartridge is loaded (70_reset_and_hazards.md R290: before a
  `Load` the block accepts no `Reset` or `Step`). Safe: there is no machine yet. -/
  | noCartridge
  /-- Raised by `engineStep` (and by `step` through it) on a record in flight from which no instruction can be assembled though both
  counters are at their budgets; no reachable state holds one (log 9). Safe. -/
  | brokenRecord
  deriving DecidableEq, Repr

/-- The state after power-on (10_state.md R35, column 'after power-on'), with no cartridge loaded (log 5) and RAM_INIT taken as
0x00 in every cell (log 4); `State.powerOn` takes both parameters of the spec. -/
def State.reset : State where
  a := Config.resetA
  b := Config.resetB
  c := Config.resetC
  d := Config.resetD
  e := Config.resetE
  h := Config.resetH
  l := Config.resetL
  f := Config.resetF
  sp := Config.resetSP
  pc := Config.resetPC
  cur := .none
  last := .none
  fault := .none
  ramEnable := false
  romBank := 1
  ramBank := 0
  mode := .romBanking
  bpEn := false
  bpAddr := 0x0000
  ram := Cells.writeAll [] Config.resetSeeds
  image := Image.none

end Sys2Proof.Machine
end

