-- ==== Sys2Proof/Machine/Ops.lean ====
section
/-! DEFINITION. The named operations over memory, the bank controller, the fault latch and the stack: the bus (20_memory.md R45 to
R52), raising a fault (60_exceptions.md R262) and the only way back from one (`Reset`, 60_exceptions.md R271), fetching a byte
(40_engine_and_alu_primitives.md R101), `Push16` and `Pop16` (42_load16.md R154, R155). -/

namespace Sys2Proof.Machine

/-- The outcome of an instruction or of a step. -/
abbrev Result := Host.Outcome State Fault Refusal

/-- The fault codes (60_exceptions.md R261). -/
def FaultKind.code : FaultKind → Nat
  | .notImplemented => 1
  | .invalidArgument => 2
  | .outOfRange => 3
  | .loadValidationFailure => 4

/-! ### The cartridge image (20_memory.md R43, R44, R60) -/

/-- `NBANKS = ceil(len(IMAGE) / 0x4000)` (20_memory.md R44). -/
def Image.nbanks (m : Image) : Nat := (m.size + (Config.bankSize - 1)) / Config.bankSize

/-- `IMAGE[off]`, for `off` inside the image. -/
def Image.byte (m : Image) (off : Nat) : Byte := Cells.read m.cells off

/-- `CART_TYPE = IMAGE[0x0147]` (20_memory.md R60). -/
def Image.cartType (m : Image) : Byte := m.byte 0x0147

/-- The banking-capable controller class (20_memory.md R60). UNVERIFIED: decision D20 (log 6). -/
def Image.banking (m : Image) : Bool := m.cartType == 0x01 || m.cartType == 0x02 || m.cartType == 0x03

/-- `RomByte(k, off)` (20_memory.md R47): the bank test before the offset test. -/
def Image.romByte (m : Image) (k off : Nat) : Except FaultRecord Byte :=
  if m.nbanks ≤ k then .error { kind := .outOfRange, info := k }
  else if m.size ≤ k * Config.bankSize + off then
    .error { kind := .outOfRange, info := k * Config.bankSize + off }
  else .ok (m.byte (k * Config.bankSize + off))

/-! ### The bus -/

/-- `MemRead(addr, 1)` (20_memory.md R45). A read changes no state. -/
def State.readByte (s : State) (addr : Word) : Except FaultRecord Byte :=
  if addr.toNat < Config.bankSize then s.image.romByte 0 addr.toNat
  else if addr.toNat < Config.ramBase then s.image.romByte s.romBank.toNat (addr.toNat - Config.bankSize)
  else .ok (Cells.read s.ram addr.toNat)

/-- The bank select of a write to 0x2000 to 0x3FFF: the low five bits, 0 read as 1 (20_memory.md R50). -/
def selectLow (bank : BitVec 7) (v : Byte) : BitVec 7 :=
  let n : BitVec 5 := v.extractLsb' 0 5
  bank.extractLsb' 5 2 ++ (if n = 0 then 1 else n)

/-- The bank select of a write to 0x4000 to 0x5FFF in ROM-banking mode: bits 6:5 (20_memory.md R51). -/
def selectHigh (bank : BitVec 7) (v : Byte) : BitVec 7 :=
  v.extractLsb' 0 2 ++ bank.extractLsb' 0 5

/-- A write to ROM space on a banking-capable cartridge (20_memory.md R49 to R52). -/
def State.writeController (s : State) (addr : Word) (v : Byte) : Except FaultRecord State :=
  if addr.toNat < 0x2000 then .ok { s with ramEnable := v.extractLsb' 0 4 == 0xA }
  else if addr.toNat < 0x4000 then .ok { s with romBank := selectLow s.romBank v }
  else if addr.toNat < 0x6000 then
    match s.mode with
    | .romBanking => .ok { s with romBank := selectHigh s.romBank v }
    | .ramBanking => .ok { s with ramBank := v.extractLsb' 0 2 }
  else if v = 0x00 then .ok { s with mode := .romBanking }
  else if v = 0x01 then .ok { s with mode := .ramBanking }
  else .error { kind := .invalidArgument, info := v.toNat }

/-- `MemWrite(addr, 1, v)` (20_memory.md R48): a RAM store, a controller command, or a fault that changes nothing. -/
def State.writeByte (s : State) (addr : Word) (v : Byte) : Except FaultRecord State :=
  if Config.ramBase ≤ addr.toNat then .ok { s with ram := Cells.write s.ram addr.toNat v }
  else if s.image.banking then s.writeController addr v
  else .error { kind := .notImplemented, info := 0x200 + s.image.cartType.toNat }

/-! ### Taking a fault, and the return from it -/

/-- Raising a fault inside a step (60_exceptions.md R262): the latch is set and nothing else is written. The step that raises it
answers a next state with the latch set (log 2). -/
def State.raiseFault (s : State) (r : FaultRecord) : Result := .next { s with fault := some r }

/-- `Reset` (70_reset_and_hazards.md R291 to R296), the only way out of a fault (60_exceptions.md R271): registers and the 31 seeded
cells, no instruction in flight, the latch clear; `last`, every other cell, the bank controller, the breakpoint registers
and the image are left alone. -/
def State.doReset (s : State) : State :=
  { s with
    a := Config.resetA, f := Config.resetF, b := Config.resetB, c := Config.resetC, d := Config.resetD,
    e := Config.resetE, h := Config.resetH, l := Config.resetL, sp := Config.resetSP, pc := Config.resetPC,
    cur := none, fault := none, ram := Cells.writeAll s.ram Config.resetSeeds }

/-! ### Accesses inside an instruction: go on, or raise the fault with what was done before kept (60_exceptions.md R266) -/

/-- Read a byte and go on with it. -/
def State.withRead (s : State) (addr : Word) (k : Byte → Result) : Result :=
  match s.readByte addr with
  | .ok v => k v
  | .error r => s.raiseFault r

/-- Write a byte and go on in the state after the write. -/
def State.withWrite (s : State) (addr : Word) (v : Byte) (k : State → Result) : Result :=
  match s.writeByte addr v with
  | .ok s' => k s'
  | .error r => s.raiseFault r

/-- `Fetch()` (40_engine_and_alu_primitives.md R101): on a fault `PC` is not incremented. -/
def State.fetchByte (s : State) : Except FaultRecord (Byte × State) :=
  match s.readByte s.pc with
  | .ok v => .ok (v, { s with pc := s.pc + 1 })
  | .error r => .error r

/-- `Push16(w)` (42_load16.md R154): high byte at SP-1, then low byte at SP-2, then `SP`. -/
def State.push16 (s : State) (w : Word) (k : State → Result) : Result :=
  s.withWrite (s.sp - 1) (hiByte w) fun s1 =>
    s1.withWrite (s.sp - 2) (loByte w) fun s2 =>
      k { s2 with sp := s.sp - 2 }

/-- `Pop16()` (42_load16.md R155): low byte at SP, then high byte at SP+1, then `SP`. -/
def State.pop16 (s : State) (k : Word → State → Result) : Result :=
  s.withRead s.sp fun lo =>
    s.withRead (s.sp + 1) fun hi =>
      k (joinBytes hi lo) { s with sp := s.sp + 2 }

end Sys2Proof.Machine
end

