-- ==== Sys2Proof/Machine/Cartridge.lean ====
section
/-! DEFINITION. `Load` and its validation (20_memory.md R61, R62), power-on (70_reset_and_hazards.md R297). -/

namespace Sys2Proof.Machine

/-- The 48 bytes of the boot logo (20_memory.md R62). UNVERIFIED: decision D29 (log 6). -/
def logo : List Byte :=
  [0xCE, 0xED, 0x66, 0x66, 0xCC, 0x0D, 0x00, 0x0B, 0x03, 0x73, 0x00, 0x83, 0x00, 0x0C, 0x00, 0x0D] ++
  [0x00, 0x08, 0x11, 0x1F, 0x88, 0x89, 0x00, 0x0E, 0xDC, 0xCC, 0x6E, 0xE6, 0xDD, 0xDD, 0xD9, 0x99] ++
  [0xBB, 0xBB, 0x67, 0x63, 0x6E, 0x0E, 0xEC, 0xCC, 0xDD, 0xDC, 0x99, 0x9F, 0xBB, 0xB9, 0x33, 0x3E]

/-- The bytes of the image from an offset on are those of a list. -/
def Image.matchesAt (m : Image) : Nat → List Byte → Bool
  | _, [] => true
  | off, v :: vs => m.byte off == v && m.matchesAt (off + 1) vs

/-- The header checksum over `n` bytes from an offset on: `x <- x - IMAGE[i] - 1` (20_memory.md R62). -/
def Image.checksum (m : Image) (off : Nat) : Nat → Byte → Byte
  | 0, x => x
  | n + 1, x => m.checksum (off + 1) n (x - m.byte off - 1)

/-- `valid(IMAGE)` (20_memory.md R62): size, logo at 0x0104 to 0x0133, checksum over 0x0134 to 0x014C at 0x014D. -/
def Image.valid (m : Image) : Bool :=
  decide (Config.minImageSize ≤ m.size) && m.matchesAt 0x0104 logo &&
    m.checksum 0x0134 25 0 == m.byte 0x014D

/-- The image of a list of bytes. -/
def Image.ofBytes (bs : List Byte) : Image := { size := bs.length, cells := Cells.writeAll [] (Cells.run 0 bs) }

/-- The blank valid 32 KB image of 95_test_vectors.md section 5.3: the logo, cartridge type 0x01, its checksum, 0x00 elsewhere. -/
def Image.blank : Image :=
  { size := 0x8000,
    cells := Cells.writeAll [] (Cells.run 0x0104 logo ++ [(0x0147, 0x01), (0x014D, 0xE6)]) }

/-- The installing half of `Load(image)` (20_memory.md R61): IMAGE, the bank controller, and `RAM <- RAM_INIT`; and, as the first half
of power-on, no last executed instruction and no breakpoint (70_reset_and_hazards.md R297, 10_state.md R24, R35). DEDUCED (log 12) that
these are written here: R297 gives them after `Load` then `Reset`, and R293 and R296 have `Reset` leave them alone. -/
def State.install (s : State) (m : Image) (ramInit : List Host.Cell) : State :=
  { s with image := m, romBank := 1, ramBank := 0, mode := .romBanking, ramEnable := false, ram := ramInit,
           last := none, bpEn := false, bpAddr := 0x0000 }

/-- `Load(image)` (20_memory.md R61, R62): on a failed validation nothing is built and the block is left without a cartridge; the
failure is returned to the host and does not set the latch (60_exceptions.md R268, R274). -/
def State.load (s : State) (m : Image) (ramInit : List Host.Cell) : Except FaultRecord Unit × State :=
  if m.valid then (.ok (), s.install m ramInit)
  else (.error { kind := .loadValidationFailure, info := 0 }, { s with image := Image.none })

/-- Power-on (70_reset_and_hazards.md R297, 10_state.md R35): `Load(image)` then `Reset`. The two together write every field, so the
state before is of no account (`State.doReset_install`). The parameters IMAGE and RAM_INIT of the spec are its arguments. -/
def State.powerOn (m : Image) (ramInit : List Host.Cell) : State :=
  (State.reset.install m ramInit).doReset

end Sys2Proof.Machine
end

