-- ==== Sys2Proof/Decode.lean ====
section
/-! DEFINITION. The two opcode tables as the spec prints them (30_encoding.md R87, R88), the decoder over bytes, total and rejecting
by name, and after it the encoder, written from the field layouts of the instruction rules (R84, R85 and the encodings of R130 to
R257), so that the round trip compares two presentations of the encoding. -/

namespace Sys2Proof

/-- What an opcode performs, by the parameter bytes it takes (30_encoding.md R80). -/
inductive Handler where
  | plain (i : Instr)
  | withByte (mk : Byte → Instr)
  | withWord (mk : Word → Instr)

/-- An OpcodeDescriptor (30_encoding.md R86): description, declared length L, declared cycle count N, handler. -/
structure Desc where
  description : String
  length : Nat
  cycles : Nat
  handler : Handler

/-- An entry of the primary table: an instruction, the bare secondary-prefix byte (R82), or an opcode without a handler (R89),
which has no L and no N. -/
inductive Entry where
  | ins (d : Desc)
  | bare
  | hole (i : Instr)

/-- A primary entry with a handler. -/
def ins (description : String) (length cycles : Nat) (handler : Handler) : Entry :=
  .ins { description, length, cycles, handler }

/-- The operand form of each instruction (`source_fields` of spec/opcode_table.json). -/
def Instr.form : Instr → Form
  | .nop => .nop
  | .ldBcD16 nn => .ldRrD16 .bc nn
  | .ldAtBcA => .ldAtBcA
  | .incBc => .incRr .bc
  | .incB => .incR .b
  | .decB => .decR .b
  | .ldBD8 n => .ldRD8 .b n
  | .rlca => .rlca
  | .ldAtA16Sp nn => .ldAtA16Sp nn
  | .addHlBc => .addHlRr .bc
  | .ldAAtBc => .ldAAtBc
  | .decBc => .decRr .bc
  | .incC => .incR .c
  | .decC => .decR .c
  | .ldCD8 n => .ldRD8 .c n
  | .rrca => .rrca
  | .stop n => .stop n
  | .ldDeD16 nn => .ldRrD16 .de nn
  | .ldAtDeA => .ldAtDeA
  | .incDe => .incRr .de
  | .incD => .incR .d
  | .decD => .decR .d
  | .ldDD8 n => .ldRD8 .d n
  | .rla => .rla
  | .jrR8 e => .jr e
  | .addHlDe => .addHlRr .de
  | .ldAAtDe => .ldAAtDe
  | .decDe => .decRr .de
  | .incE => .incR .e
  | .decE => .decR .e
  | .ldED8 n => .ldRD8 .e n
  | .rra => .rra
  | .jrNzR8 e => .jrCc .nz e
  | .ldHlD16 nn => .ldRrD16 .hl nn
  | .ldAtHliA => .ldAtHliA
  | .incHl => .incRr .hl
  | .incH => .incR .h
  | .decH => .decR .h
  | .ldHD8 n => .ldRD8 .h n
  | .daa => .daa
  | .jrZR8 e => .jrCc .z e
  | .addHlHl => .addHlRr .hl
  | .ldAAtHli => .ldAAtHli
  | .decHl => .decRr .hl
  | .incL => .incR .l
  | .decL => .decR .l
  | .ldLD8 n => .ldRD8 .l n
  | .cpl => .cpl
  | .jrNcR8 e => .jrCc .nc e
  | .ldSpD16 nn => .ldRrD16 .sp nn
  | .ldAtHldA => .ldAtHldA
  | .incSp => .incRr .sp
  | .incAtHl => .incAtHl
  | .decAtHl => .decAtHl
  | .ldAtHlD8 n => .ldAtHlD8 n
  | .scf => .scf
  | .jrCR8 e => .jrCc .c e
  | .addHlSp => .addHlRr .sp
  | .ldAAtHld => .ldAAtHld
  | .decSp => .decRr .sp
  | .incA => .incR .a
  | .decA => .decR .a
  | .ldAD8 n => .ldRD8 .a n
  | .ccf => .ccf
  | .ldBB => .ldRR .b .b
  | .ldBC => .ldRR .b .c
  | .ldBD => .ldRR .b .d
  | .ldBE => .ldRR .b .e
  | .ldBH => .ldRR .b .h
  | .ldBL => .ldRR .b .l
  | .ldBAtHl => .ldRAtHl .b
  | .ldBA => .ldRR .b .a
  | .ldCB => .ldRR .c .b
  | .ldCC => .ldRR .c .c
  | .ldCD => .ldRR .c .d
  | .ldCE => .ldRR .c .e
  | .ldCH => .ldRR .c .h
  | .ldCL => .ldRR .c .l
  | .ldCAtHl => .ldRAtHl .c
  | .ldCA => .ldRR .c .a
  | .ldDB => .ldRR .d .b
  | .ldDC => .ldRR .d .c
  | .ldDD => .ldRR .d .d
  | .ldDE => .ldRR .d .e
  | .ldDH => .ldRR .d .h
  | .ldDL => .ldRR .d .l
  | .ldDAtHl => .ldRAtHl .d
  | .ldDA => .ldRR .d .a
  | .ldEB => .ldRR .e .b
  | .ldEC => .ldRR .e .c
  | .ldED => .ldRR .e .d
  | .ldEE => .ldRR .e .e
  | .ldEH => .ldRR .e .h
  | .ldEL => .ldRR .e .l
  | .ldEAtHl => .ldRAtHl .e
  | .ldEA => .ldRR .e .a
  | .ldHB => .ldRR .h .b
  | .ldHC => .ldRR .h .c
  | .ldHD => .ldRR .h .d
  | .ldHE => .ldRR .h .e
  | .ldHH => .ldRR .h .h
  | .ldHL => .ldRR .h .l
  | .ldHAtHl => .ldRAtHl .h
  | .ldHA => .ldRR .h .a
  | .ldLB => .ldRR .l .b
  | .ldLC => .ldRR .l .c
  | .ldLD => .ldRR .l .d
  | .ldLE => .ldRR .l .e
  | .ldLH => .ldRR .l .h
  | .ldLL => .ldRR .l .l
  | .ldLAtHl => .ldRAtHl .l
  | .ldLA => .ldRR .l .a
  | .ldAtHlB => .ldAtHlR .b
  | .ldAtHlC => .ldAtHlR .c
  | .ldAtHlD => .ldAtHlR .d
  | .ldAtHlE => .ldAtHlR .e
  | .ldAtHlH => .ldAtHlR .h
  | .ldAtHlL => .ldAtHlR .l
  | .halt => .halt
  | .ldAtHlA => .ldAtHlR .a
  | .ldAB => .ldRR .a .b
  | .ldAC => .ldRR .a .c
  | .ldAD => .ldRR .a .d
  | .ldAE => .ldRR .a .e
  | .ldAH => .ldRR .a .h
  | .ldAL => .ldRR .a .l
  | .ldAAtHl => .ldRAtHl .a
  | .ldAA => .ldRR .a .a
  | .addAB => .aluR .add .b
  | .addAC => .aluR .add .c
  | .addAD => .aluR .add .d
  | .addAE => .aluR .add .e
  | .addAH => .aluR .add .h
  | .addAL => .aluR .add .l
  | .addAAtHl => .aluAtHl .add
  | .addAA => .aluR .add .a
  | .adcAB => .aluR .adc .b
  | .adcAC => .aluR .adc .c
  | .adcAD => .aluR .adc .d
  | .adcAE => .aluR .adc .e
  | .adcAH => .aluR .adc .h
  | .adcAL => .aluR .adc .l
  | .adcAAtHl => .aluAtHl .adc
  | .adcAA => .aluR .adc .a
  | .subB => .aluR .sub .b
  | .subC => .aluR .sub .c
  | .subD => .aluR .sub .d
  | .subE => .aluR .sub .e
  | .subH => .aluR .sub .h
  | .subL => .aluR .sub .l
  | .subAtHl => .aluAtHl .sub
  | .subA => .aluR .sub .a
  | .sbcAB => .aluR .sbc .b
  | .sbcAC => .aluR .sbc .c
  | .sbcAD => .aluR .sbc .d
  | .sbcAE => .aluR .sbc .e
  | .sbcAH => .aluR .sbc .h
  | .sbcAL => .aluR .sbc .l
  | .sbcAAtHl => .aluAtHl .sbc
  | .sbcAA => .aluR .sbc .a
  | .andB => .aluR .land .b
  | .andC => .aluR .land .c
  | .andD => .aluR .land .d
  | .andE => .aluR .land .e
  | .andH => .aluR .land .h
  | .andL => .aluR .land .l
  | .andAtHl => .aluAtHl .land
  | .andA => .aluR .land .a
  | .xorB => .aluR .lxor .b
  | .xorC => .aluR .lxor .c
  | .xorD => .aluR .lxor .d
  | .xorE => .aluR .lxor .e
  | .xorH => .aluR .lxor .h
  | .xorL => .aluR .lxor .l
  | .xorAtHl => .aluAtHl .lxor
  | .xorA => .aluR .lxor .a
  | .orB => .aluR .lor .b
  | .orC => .aluR .lor .c
  | .orD => .aluR .lor .d
  | .orE => .aluR .lor .e
  | .orH => .aluR .lor .h
  | .orL => .aluR .lor .l
  | .orAtHl => .aluAtHl .lor
  | .orA => .aluR .lor .a
  | .cpB => .aluR .cp .b
  | .cpC => .aluR .cp .c
  | .cpD => .aluR .cp .d
  | .cpE => .aluR .cp .e
  | .cpH => .aluR .cp .h
  | .cpL => .aluR .cp .l
  | .cpAtHl => .aluAtHl .cp
  | .cpA => .aluR .cp .a
  | .retNz => .retCc .nz
  | .popBc => .pop .bc
  | .jpNzA16 nn => .jpCc .nz nn
  | .jpA16 nn => .jp nn
  | .callNzA16 nn => .callCc .nz nn
  | .pushBc => .push .bc
  | .addAD8 n => .aluD8 .add n
  | .rst00 => .rst .b0
  | .retZ => .retCc .z
  | .ret => .ret
  | .jpZA16 nn => .jpCc .z nn
  | .prefixCb => .prefixCb
  | .callZA16 nn => .callCc .z nn
  | .callA16 nn => .call nn
  | .adcAD8 n => .aluD8 .adc n
  | .rst08 => .rst .b1
  | .retNc => .retCc .nc
  | .popDe => .pop .de
  | .jpNcA16 nn => .jpCc .nc nn
  | .undefD3 => .undef 0xD3
  | .callNcA16 nn => .callCc .nc nn
  | .pushDe => .push .de
  | .subD8 n => .aluD8 .sub n
  | .rst10 => .rst .b2
  | .retC => .retCc .c
  | .reti => .reti
  | .jpCA16 nn => .jpCc .c nn
  | .undefDB => .undef 0xDB
  | .callCA16 nn => .callCc .c nn
  | .undefDD => .undef 0xDD
  | .sbcAD8 n => .aluD8 .sbc n
  | .rst18 => .rst .b3
  | .ldhAtA8A n => .ldhAtA8A n
  | .popHl => .pop .hl
  | .ldAtCA => .ldAtCA
  | .undefE3 => .undef 0xE3
  | .undefE4 => .undef 0xE4
  | .pushHl => .push .hl
  | .andD8 n => .aluD8 .land n
  | .rst20 => .rst .b4
  | .addSpR8 e => .addSpR8 e
  | .jpAtHl => .jpAtHl
  | .ldAtA16A nn => .ldAtA16A nn
  | .undefEB => .undef 0xEB
  | .undefEC => .undef 0xEC
  | .undefED => .undef 0xED
  | .xorD8 n => .aluD8 .lxor n
  | .rst28 => .rst .b5
  | .ldhAAtA8 n => .ldhAAtA8 n
  | .popAf => .pop .af
  | .ldAAtC => .ldAAtC
  | .di => .di
  | .undefF4 => .undef 0xF4
  | .pushAf => .push .af
  | .orD8 n => .aluD8 .lor n
  | .rst30 => .rst .b6
  | .ldHlSpR8 e => .ldHlSpR8 e
  | .ldSpHl => .ldSpHl
  | .ldAAtA16 nn => .ldAAtA16 nn
  | .ei => .ei
  | .undefFC => .undef 0xFC
  | .undefFD => .undef 0xFD
  | .cpD8 n => .aluD8 .cp n
  | .rst38 => .rst .b7
  | .rlcB => .rotR .rlc .b
  | .rlcC => .rotR .rlc .c
  | .rlcD => .rotR .rlc .d
  | .rlcE => .rotR .rlc .e
  | .rlcH => .rotR .rlc .h
  | .rlcL => .rotR .rlc .l
  | .rlcAtHl => .rotAtHl .rlc
  | .rlcA => .rotR .rlc .a
  | .rrcB => .rotR .rrc .b
  | .rrcC => .rotR .rrc .c
  | .rrcD => .rotR .rrc .d
  | .rrcE => .rotR .rrc .e
  | .rrcH => .rotR .rrc .h
  | .rrcL => .rotR .rrc .l
  | .rrcAtHl => .rotAtHl .rrc
  | .rrcA => .rotR .rrc .a
  | .rlB => .rotR .rl .b
  | .rlC => .rotR .rl .c
  | .rlD => .rotR .rl .d
  | .rlE => .rotR .rl .e
  | .rlH => .rotR .rl .h
  | .rlL => .rotR .rl .l
  | .rlAtHl => .rotAtHl .rl
  | .rlA => .rotR .rl .a
  | .rrB => .rotR .rr .b
  | .rrC => .rotR .rr .c
  | .rrD => .rotR .rr .d
  | .rrE => .rotR .rr .e
  | .rrH => .rotR .rr .h
  | .rrL => .rotR .rr .l
  | .rrAtHl => .rotAtHl .rr
  | .rrA => .rotR .rr .a
  | .slaB => .rotR .sla .b
  | .slaC => .rotR .sla .c
  | .slaD => .rotR .sla .d
  | .slaE => .rotR .sla .e
  | .slaH => .rotR .sla .h
  | .slaL => .rotR .sla .l
  | .slaAtHl => .rotAtHl .sla
  | .slaA => .rotR .sla .a
  | .sraB => .rotR .sra .b
  | .sraC => .rotR .sra .c
  | .sraD => .rotR .sra .d
  | .sraE => .rotR .sra .e
  | .sraH => .rotR .sra .h
  | .sraL => .rotR .sra .l
  | .sraAtHl => .rotAtHl .sra
  | .sraA => .rotR .sra .a
  | .swapB => .rotR .swap .b
  | .swapC => .rotR .swap .c
  | .swapD => .rotR .swap .d
  | .swapE => .rotR .swap .e
  | .swapH => .rotR .swap .h
  | .swapL => .rotR .swap .l
  | .swapAtHl => .rotAtHl .swap
  | .swapA => .rotR .swap .a
  | .srlB => .rotR .srl .b
  | .srlC => .rotR .srl .c
  | .srlD => .rotR .srl .d
  | .srlE => .rotR .srl .e
  | .srlH => .rotR .srl .h
  | .srlL => .rotR .srl .l
  | .srlAtHl => .rotAtHl .srl
  | .srlA => .rotR .srl .a
  | .bit0B => .bitR .b0 .b
  | .bit0C => .bitR .b0 .c
  | .bit0D => .bitR .b0 .d
  | .bit0E => .bitR .b0 .e
  | .bit0H => .bitR .b0 .h
  | .bit0L => .bitR .b0 .l
  | .bit0AtHl => .bitAtHl .b0
  | .bit0A => .bitR .b0 .a
  | .bit1B => .bitR .b1 .b
  | .bit1C => .bitR .b1 .c
  | .bit1D => .bitR .b1 .d
  | .bit1E => .bitR .b1 .e
  | .bit1H => .bitR .b1 .h
  | .bit1L => .bitR .b1 .l
  | .bit1AtHl => .bitAtHl .b1
  | .bit1A => .bitR .b1 .a
  | .bit2B => .bitR .b2 .b
  | .bit2C => .bitR .b2 .c
  | .bit2D => .bitR .b2 .d
  | .bit2E => .bitR .b2 .e
  | .bit2H => .bitR .b2 .h
  | .bit2L => .bitR .b2 .l
  | .bit2AtHl => .bitAtHl .b2
  | .bit2A => .bitR .b2 .a
  | .bit3B => .bitR .b3 .b
  | .bit3C => .bitR .b3 .c
  | .bit3D => .bitR .b3 .d
  | .bit3E => .bitR .b3 .e
  | .bit3H => .bitR .b3 .h
  | .bit3L => .bitR .b3 .l
  | .bit3AtHl => .bitAtHl .b3
  | .bit3A => .bitR .b3 .a
  | .bit4B => .bitR .b4 .b
  | .bit4C => .bitR .b4 .c
  | .bit4D => .bitR .b4 .d
  | .bit4E => .bitR .b4 .e
  | .bit4H => .bitR .b4 .h
  | .bit4L => .bitR .b4 .l
  | .bit4AtHl => .bitAtHl .b4
  | .bit4A => .bitR .b4 .a
  | .bit5B => .bitR .b5 .b
  | .bit5C => .bitR .b5 .c
  | .bit5D => .bitR .b5 .d
  | .bit5E => .bitR .b5 .e
  | .bit5H => .bitR .b5 .h
  | .bit5L => .bitR .b5 .l
  | .bit5AtHl => .bitAtHl .b5
  | .bit5A => .bitR .b5 .a
  | .bit6B => .bitR .b6 .b
  | .bit6C => .bitR .b6 .c
  | .bit6D => .bitR .b6 .d
  | .bit6E => .bitR .b6 .e
  | .bit6H => .bitR .b6 .h
  | .bit6L => .bitR .b6 .l
  | .bit6AtHl => .bitAtHl .b6
  | .bit6A => .bitR .b6 .a
  | .bit7B => .bitR .b7 .b
  | .bit7C => .bitR .b7 .c
  | .bit7D => .bitR .b7 .d
  | .bit7E => .bitR .b7 .e
  | .bit7H => .bitR .b7 .h
  | .bit7L => .bitR .b7 .l
  | .bit7AtHl => .bitAtHl .b7
  | .bit7A => .bitR .b7 .a
  | .res0B => .resR .b0 .b
  | .res0C => .resR .b0 .c
  | .res0D => .resR .b0 .d
  | .res0E => .resR .b0 .e
  | .res0H => .resR .b0 .h
  | .res0L => .resR .b0 .l
  | .res0AtHl => .resAtHl .b0
  | .res0A => .resR .b0 .a
  | .res1B => .resR .b1 .b
  | .res1C => .resR .b1 .c
  | .res1D => .resR .b1 .d
  | .res1E => .resR .b1 .e
  | .res1H => .resR .b1 .h
  | .res1L => .resR .b1 .l
  | .res1AtHl => .resAtHl .b1
  | .res1A => .resR .b1 .a
  | .res2B => .resR .b2 .b
  | .res2C => .resR .b2 .c
  | .res2D => .resR .b2 .d
  | .res2E => .resR .b2 .e
  | .res2H => .resR .b2 .h
  | .res2L => .resR .b2 .l
  | .res2AtHl => .resAtHl .b2
  | .res2A => .resR .b2 .a
  | .res3B => .resR .b3 .b
  | .res3C => .resR .b3 .c
  | .res3D => .resR .b3 .d
  | .res3E => .resR .b3 .e
  | .res3H => .resR .b3 .h
  | .res3L => .resR .b3 .l
  | .res3AtHl => .resAtHl .b3
  | .res3A => .resR .b3 .a
  | .res4B => .resR .b4 .b
  | .res4C => .resR .b4 .c
  | .res4D => .resR .b4 .d
  | .res4E => .resR .b4 .e
  | .res4H => .resR .b4 .h
  | .res4L => .resR .b4 .l
  | .res4AtHl => .resAtHl .b4
  | .res4A => .resR .b4 .a
  | .res5B => .resR .b5 .b
  | .res5C => .resR .b5 .c
  | .res5D => .resR .b5 .d
  | .res5E => .resR .b5 .e
  | .res5H => .resR .b5 .h
  | .res5L => .resR .b5 .l
  | .res5AtHl => .resAtHl .b5
  | .res5A => .resR .b5 .a
  | .res6B => .resR .b6 .b
  | .res6C => .resR .b6 .c
  | .res6D => .resR .b6 .d
  | .res6E => .resR .b6 .e
  | .res6H => .resR .b6 .h
  | .res6L => .resR .b6 .l
  | .res6AtHl => .resAtHl .b6
  | .res6A => .resR .b6 .a
  | .res7B => .resR .b7 .b
  | .res7C => .resR .b7 .c
  | .res7D => .resR .b7 .d
  | .res7E => .resR .b7 .e
  | .res7H => .resR .b7 .h
  | .res7L => .resR .b7 .l
  | .res7AtHl => .resAtHl .b7
  | .res7A => .resR .b7 .a
  | .set0B => .setR .b0 .b
  | .set0C => .setR .b0 .c
  | .set0D => .setR .b0 .d
  | .set0E => .setR .b0 .e
  | .set0H => .setR .b0 .h
  | .set0L => .setR .b0 .l
  | .set0AtHl => .setAtHl .b0
  | .set0A => .setR .b0 .a
  | .set1B => .setR .b1 .b
  | .set1C => .setR .b1 .c
  | .set1D => .setR .b1 .d
  | .set1E => .setR .b1 .e
  | .set1H => .setR .b1 .h
  | .set1L => .setR .b1 .l
  | .set1AtHl => .setAtHl .b1
  | .set1A => .setR .b1 .a
  | .set2B => .setR .b2 .b
  | .set2C => .setR .b2 .c
  | .set2D => .setR .b2 .d
  | .set2E => .setR .b2 .e
  | .set2H => .setR .b2 .h
  | .set2L => .setR .b2 .l
  | .set2AtHl => .setAtHl .b2
  | .set2A => .setR .b2 .a
  | .set3B => .setR .b3 .b
  | .set3C => .setR .b3 .c
  | .set3D => .setR .b3 .d
  | .set3E => .setR .b3 .e
  | .set3H => .setR .b3 .h
  | .set3L => .setR .b3 .l
  | .set3AtHl => .setAtHl .b3
  | .set3A => .setR .b3 .a
  | .set4B => .setR .b4 .b
  | .set4C => .setR .b4 .c
  | .set4D => .setR .b4 .d
  | .set4E => .setR .b4 .e
  | .set4H => .setR .b4 .h
  | .set4L => .setR .b4 .l
  | .set4AtHl => .setAtHl .b4
  | .set4A => .setR .b4 .a
  | .set5B => .setR .b5 .b
  | .set5C => .setR .b5 .c
  | .set5D => .setR .b5 .d
  | .set5E => .setR .b5 .e
  | .set5H => .setR .b5 .h
  | .set5L => .setR .b5 .l
  | .set5AtHl => .setAtHl .b5
  | .set5A => .setR .b5 .a
  | .set6B => .setR .b6 .b
  | .set6C => .setR .b6 .c
  | .set6D => .setR .b6 .d
  | .set6E => .setR .b6 .e
  | .set6H => .setR .b6 .h
  | .set6L => .setR .b6 .l
  | .set6AtHl => .setAtHl .b6
  | .set6A => .setR .b6 .a
  | .set7B => .setR .b7 .b
  | .set7C => .setR .b7 .c
  | .set7D => .setR .b7 .d
  | .set7E => .setR .b7 .e
  | .set7H => .setR .b7 .h
  | .set7L => .setR .b7 .l
  | .set7AtHl => .setAtHl .b7
  | .set7A => .setR .b7 .a

/-- Primary opcodes 0x00 to 0x0F. -/
def primaryRow0 : List Entry :=
  [ins "NOP" 1 1 (.plain .nop),
   ins "LD BC,d16" 3 3 (.withWord .ldBcD16),
   ins "LD (BC),A" 1 2 (.plain .ldAtBcA),
   ins "INC BC" 1 2 (.plain .incBc),
   ins "INC B" 1 1 (.plain .incB),
   ins "DEC B" 1 1 (.plain .decB),
   ins "LD B,d8" 2 2 (.withByte .ldBD8),
   ins "RLCA" 1 1 (.plain .rlca),
   ins "LD (a16),SP" 3 5 (.withWord .ldAtA16Sp),
   ins "ADD HL,BC" 1 2 (.plain .addHlBc),
   ins "LD A,(BC)" 1 2 (.plain .ldAAtBc),
   ins "DEC BC" 1 2 (.plain .decBc),
   ins "INC C" 1 1 (.plain .incC),
   ins "DEC C" 1 1 (.plain .decC),
   ins "LD C,d8" 2 2 (.withByte .ldCD8),
   ins "RRCA" 1 1 (.plain .rrca)]

/-- Primary opcodes 0x10 to 0x1F. -/
def primaryRow1 : List Entry :=
  [ins "STOP" 2 1 (.withByte .stop),
   ins "LD DE,d16" 3 3 (.withWord .ldDeD16),
   ins "LD (DE),A" 1 2 (.plain .ldAtDeA),
   ins "INC DE" 1 2 (.plain .incDe),
   ins "INC D" 1 1 (.plain .incD),
   ins "DEC D" 1 1 (.plain .decD),
   ins "LD D,d8" 2 2 (.withByte .ldDD8),
   ins "RLA" 1 1 (.plain .rla),
   ins "JR r8" 2 3 (.withByte .jrR8),
   ins "ADD HL,DE" 1 2 (.plain .addHlDe),
   ins "LD A,(DE)" 1 2 (.plain .ldAAtDe),
   ins "DEC DE" 1 2 (.plain .decDe),
   ins "INC E" 1 1 (.plain .incE),
   ins "DEC E" 1 1 (.plain .decE),
   ins "LD E,d8" 2 2 (.withByte .ldED8),
   ins "RRA" 1 1 (.plain .rra)]

/-- Primary opcodes 0x20 to 0x2F. -/
def primaryRow2 : List Entry :=
  [ins "JR NZ,r8" 2 2 (.withByte .jrNzR8),
   ins "LD HL,d16" 3 3 (.withWord .ldHlD16),
   ins "LD (HL+),A" 1 2 (.plain .ldAtHliA),
   ins "INC HL" 1 2 (.plain .incHl),
   ins "INC H" 1 1 (.plain .incH),
   ins "DEC H" 1 1 (.plain .decH),
   ins "LD H,d8" 2 2 (.withByte .ldHD8),
   ins "DAA" 1 1 (.plain .daa),
   ins "JR Z,r8" 2 2 (.withByte .jrZR8),
   ins "ADD HL,HL" 1 2 (.plain .addHlHl),
   ins "LD A,(HL+)" 1 2 (.plain .ldAAtHli),
   ins "DEC HL" 1 2 (.plain .decHl),
   ins "INC L" 1 1 (.plain .incL),
   ins "DEC L" 1 1 (.plain .decL),
   ins "LD L,d8" 2 2 (.withByte .ldLD8),
   ins "CPL" 1 1 (.plain .cpl)]

/-- Primary opcodes 0x30 to 0x3F. -/
def primaryRow3 : List Entry :=
  [ins "JR NC,r8" 2 2 (.withByte .jrNcR8),
   ins "LD SP,d16" 3 3 (.withWord .ldSpD16),
   ins "LD (HL-),A" 1 2 (.plain .ldAtHldA),
   ins "INC SP" 1 2 (.plain .incSp),
   ins "INC (HL)" 1 3 (.plain .incAtHl),
   ins "DEC (HL)" 1 3 (.plain .decAtHl),
   ins "LD (HL),d8" 2 3 (.withByte .ldAtHlD8),
   ins "SCF" 1 1 (.plain .scf),
   ins "JR C,r8" 2 2 (.withByte .jrCR8),
   ins "ADD HL,SP" 1 2 (.plain .addHlSp),
   ins "LD A,(HL-)" 1 2 (.plain .ldAAtHld),
   ins "DEC SP" 1 2 (.plain .decSp),
   ins "INC A" 1 1 (.plain .incA),
   ins "DEC A" 1 1 (.plain .decA),
   ins "LD A,d8" 2 2 (.withByte .ldAD8),
   ins "CCF" 1 1 (.plain .ccf)]

/-- Primary opcodes 0x40 to 0x4F. -/
def primaryRow4 : List Entry :=
  [ins "LD B,B" 1 1 (.plain .ldBB),
   ins "LD B,C" 1 1 (.plain .ldBC),
   ins "LD B,D" 1 1 (.plain .ldBD),
   ins "LD B,E" 1 1 (.plain .ldBE),
   ins "LD B,H" 1 1 (.plain .ldBH),
   ins "LD B,L" 1 1 (.plain .ldBL),
   ins "LD B,(HL)" 1 2 (.plain .ldBAtHl),
   ins "LD B,A" 1 1 (.plain .ldBA),
   ins "LD C,B" 1 1 (.plain .ldCB),
   ins "LD C,C" 1 1 (.plain .ldCC),
   ins "LD C,D" 1 1 (.plain .ldCD),
   ins "LD C,E" 1 1 (.plain .ldCE),
   ins "LD C,H" 1 1 (.plain .ldCH),
   ins "LD C,L" 1 1 (.plain .ldCL),
   ins "LD C,(HL)" 1 2 (.plain .ldCAtHl),
   ins "LD C,A" 1 1 (.plain .ldCA)]

/-- Primary opcodes 0x50 to 0x5F. -/
def primaryRow5 : List Entry :=
  [ins "LD D,B" 1 1 (.plain .ldDB),
   ins "LD D,C" 1 1 (.plain .ldDC),
   ins "LD D,D" 1 1 (.plain .ldDD),
   ins "LD D,E" 1 1 (.plain .ldDE),
   ins "LD D,H" 1 1 (.plain .ldDH),
   ins "LD D,L" 1 1 (.plain .ldDL),
   ins "LD D,(HL)" 1 2 (.plain .ldDAtHl),
   ins "LD D,A" 1 1 (.plain .ldDA),
   ins "LD E,B" 1 1 (.plain .ldEB),
   ins "LD E,C" 1 1 (.plain .ldEC),
   ins "LD E,D" 1 1 (.plain .ldED),
   ins "LD E,E" 1 1 (.plain .ldEE),
   ins "LD E,H" 1 1 (.plain .ldEH),
   ins "LD E,L" 1 1 (.plain .ldEL),
   ins "LD E,(HL)" 1 2 (.plain .ldEAtHl),
   ins "LD E,A" 1 1 (.plain .ldEA)]

/-- Primary opcodes 0x60 to 0x6F. -/
def primaryRow6 : List Entry :=
  [ins "LD H,B" 1 1 (.plain .ldHB),
   ins "LD H,C" 1 1 (.plain .ldHC),
   ins "LD H,D" 1 1 (.plain .ldHD),
   ins "LD H,E" 1 1 (.plain .ldHE),
   ins "LD H,H" 1 1 (.plain .ldHH),
   ins "LD H,L" 1 1 (.plain .ldHL),
   ins "LD H,(HL)" 1 2 (.plain .ldHAtHl),
   ins "LD H,A" 1 1 (.plain .ldHA),
   ins "LD L,B" 1 1 (.plain .ldLB),
   ins "LD L,C" 1 1 (.plain .ldLC),
   ins "LD L,D" 1 1 (.plain .ldLD),
   ins "LD L,E" 1 1 (.plain .ldLE),
   ins "LD L,H" 1 1 (.plain .ldLH),
   ins "LD L,L" 1 1 (.plain .ldLL),
   ins "LD L,(HL)" 1 2 (.plain .ldLAtHl),
   ins "LD L,A" 1 1 (.plain .ldLA)]

/-- Primary opcodes 0x70 to 0x7F. -/
def primaryRow7 : List Entry :=
  [ins "LD (HL),B" 1 2 (.plain .ldAtHlB),
   ins "LD (HL),C" 1 2 (.plain .ldAtHlC),
   ins "LD (HL),D" 1 2 (.plain .ldAtHlD),
   ins "LD (HL),E" 1 2 (.plain .ldAtHlE),
   ins "LD (HL),H" 1 2 (.plain .ldAtHlH),
   ins "LD (HL),L" 1 2 (.plain .ldAtHlL),
   ins "HALT" 1 1 (.plain .halt),
   ins "LD (HL),A" 1 2 (.plain .ldAtHlA),
   ins "LD A,B" 1 1 (.plain .ldAB),
   ins "LD A,C" 1 1 (.plain .ldAC),
   ins "LD A,D" 1 1 (.plain .ldAD),
   ins "LD A,E" 1 1 (.plain .ldAE),
   ins "LD A,H" 1 1 (.plain .ldAH),
   ins "LD A,L" 1 1 (.plain .ldAL),
   ins "LD A,(HL)" 1 2 (.plain .ldAAtHl),
   ins "LD A,A" 1 1 (.plain .ldAA)]

/-- Primary opcodes 0x80 to 0x8F. -/
def primaryRow8 : List Entry :=
  [ins "ADD A,B" 1 1 (.plain .addAB),
   ins "ADD A,C" 1 1 (.plain .addAC),
   ins "ADD A,D" 1 1 (.plain .addAD),
   ins "ADD A,E" 1 1 (.plain .addAE),
   ins "ADD A,H" 1 1 (.plain .addAH),
   ins "ADD A,L" 1 1 (.plain .addAL),
   ins "ADD A,(HL)" 1 2 (.plain .addAAtHl),
   ins "ADD A,A" 1 1 (.plain .addAA),
   ins "ADC A,B" 1 1 (.plain .adcAB),
   ins "ADC A,C" 1 1 (.plain .adcAC),
   ins "ADC A,D" 1 1 (.plain .adcAD),
   ins "ADC A,E" 1 1 (.plain .adcAE),
   ins "ADC A,H" 1 1 (.plain .adcAH),
   ins "ADC A,L" 1 1 (.plain .adcAL),
   ins "ADC A,(HL)" 1 2 (.plain .adcAAtHl),
   ins "ADC A,A" 1 1 (.plain .adcAA)]

/-- Primary opcodes 0x90 to 0x9F. -/
def primaryRow9 : List Entry :=
  [ins "SUB B" 1 1 (.plain .subB),
   ins "SUB C" 1 1 (.plain .subC),
   ins "SUB D" 1 1 (.plain .subD),
   ins "SUB E" 1 1 (.plain .subE),
   ins "SUB H" 1 1 (.plain .subH),
   ins "SUB L" 1 1 (.plain .subL),
   ins "SUB (HL)" 1 2 (.plain .subAtHl),
   ins "SUB A" 1 1 (.plain .subA),
   ins "SBC A,B" 1 1 (.plain .sbcAB),
   ins "SBC A,C" 1 1 (.plain .sbcAC),
   ins "SBC A,D" 1 1 (.plain .sbcAD),
   ins "SBC A,E" 1 1 (.plain .sbcAE),
   ins "SBC A,H" 1 1 (.plain .sbcAH),
   ins "SBC A,L" 1 1 (.plain .sbcAL),
   ins "SBC A,(HL)" 1 2 (.plain .sbcAAtHl),
   ins "SBC A,A" 1 1 (.plain .sbcAA)]

/-- Primary opcodes 0xA0 to 0xAF. -/
def primaryRowA : List Entry :=
  [ins "AND B" 1 1 (.plain .andB),
   ins "AND C" 1 1 (.plain .andC),
   ins "AND D" 1 1 (.plain .andD),
   ins "AND E" 1 1 (.plain .andE),
   ins "AND H" 1 1 (.plain .andH),
   ins "AND L" 1 1 (.plain .andL),
   ins "AND (HL)" 1 2 (.plain .andAtHl),
   ins "AND A" 1 1 (.plain .andA),
   ins "XOR B" 1 1 (.plain .xorB),
   ins "XOR C" 1 1 (.plain .xorC),
   ins "XOR D" 1 1 (.plain .xorD),
   ins "XOR E" 1 1 (.plain .xorE),
   ins "XOR H" 1 1 (.plain .xorH),
   ins "XOR L" 1 1 (.plain .xorL),
   ins "XOR (HL)" 1 2 (.plain .xorAtHl),
   ins "XOR A" 1 1 (.plain .xorA)]

/-- Primary opcodes 0xB0 to 0xBF. -/
def primaryRowB : List Entry :=
  [ins "OR B" 1 1 (.plain .orB),
   ins "OR C" 1 1 (.plain .orC),
   ins "OR D" 1 1 (.plain .orD),
   ins "OR E" 1 1 (.plain .orE),
   ins "OR H" 1 1 (.plain .orH),
   ins "OR L" 1 1 (.plain .orL),
   ins "OR (HL)" 1 2 (.plain .orAtHl),
   ins "OR A" 1 1 (.plain .orA),
   ins "CP B" 1 1 (.plain .cpB),
   ins "CP C" 1 1 (.plain .cpC),
   ins "CP D" 1 1 (.plain .cpD),
   ins "CP E" 1 1 (.plain .cpE),
   ins "CP H" 1 1 (.plain .cpH),
   ins "CP L" 1 1 (.plain .cpL),
   ins "CP (HL)" 1 2 (.plain .cpAtHl),
   ins "CP A" 1 1 (.plain .cpA)]

/-- Primary opcodes 0xC0 to 0xCF. -/
def primaryRowC : List Entry :=
  [ins "RET NZ" 1 2 (.plain .retNz),
   ins "POP BC" 1 3 (.plain .popBc),
   ins "JP NZ,a16" 3 3 (.withWord .jpNzA16),
   ins "JP a16" 3 4 (.withWord .jpA16),
   ins "CALL NZ,a16" 3 3 (.withWord .callNzA16),
   ins "PUSH BC" 1 4 (.plain .pushBc),
   ins "ADD A,d8" 2 2 (.withByte .addAD8),
   ins "RST 00H" 1 4 (.plain .rst00),
   ins "RET Z" 1 2 (.plain .retZ),
   ins "RET" 1 4 (.plain .ret),
   ins "JP Z,a16" 3 3 (.withWord .jpZA16),
   .bare,
   ins "CALL Z,a16" 3 3 (.withWord .callZA16),
   ins "CALL a16" 3 6 (.withWord .callA16),
   ins "ADC A,d8" 2 2 (.withByte .adcAD8),
   ins "RST 08H" 1 4 (.plain .rst08)]

/-- Primary opcodes 0xD0 to 0xDF. -/
def primaryRowD : List Entry :=
  [ins "RET NC" 1 2 (.plain .retNc),
   ins "POP DE" 1 3 (.plain .popDe),
   ins "JP NC,a16" 3 3 (.withWord .jpNcA16),
   .hole .undefD3,
   ins "CALL NC,a16" 3 3 (.withWord .callNcA16),
   ins "PUSH DE" 1 4 (.plain .pushDe),
   ins "SUB d8" 2 2 (.withByte .subD8),
   ins "RST 10H" 1 4 (.plain .rst10),
   ins "RET C" 1 2 (.plain .retC),
   ins "RETI" 1 4 (.plain .reti),
   ins "JP C,a16" 3 3 (.withWord .jpCA16),
   .hole .undefDB,
   ins "CALL C,a16" 3 3 (.withWord .callCA16),
   .hole .undefDD,
   ins "SBC A,d8" 2 2 (.withByte .sbcAD8),
   ins "RST 18H" 1 4 (.plain .rst18)]

/-- Primary opcodes 0xE0 to 0xEF. -/
def primaryRowE : List Entry :=
  [ins "LDH (a8),A" 2 3 (.withByte .ldhAtA8A),
   ins "POP HL" 1 3 (.plain .popHl),
   ins "LD (C),A" 1 2 (.plain .ldAtCA),
   .hole .undefE3,
   .hole .undefE4,
   ins "PUSH HL" 1 4 (.plain .pushHl),
   ins "AND d8" 2 2 (.withByte .andD8),
   ins "RST 20H" 1 4 (.plain .rst20),
   ins "ADD SP,r8" 2 4 (.withByte .addSpR8),
   ins "JP (HL)" 1 1 (.plain .jpAtHl),
   ins "LD (a16),A" 3 4 (.withWord .ldAtA16A),
   .hole .undefEB,
   .hole .undefEC,
   .hole .undefED,
   ins "XOR d8" 2 2 (.withByte .xorD8),
   ins "RST 28H" 1 4 (.plain .rst28)]

/-- Primary opcodes 0xF0 to 0xFF. -/
def primaryRowF : List Entry :=
  [ins "LDH A,(a8)" 2 3 (.withByte .ldhAAtA8),
   ins "POP AF" 1 3 (.plain .popAf),
   ins "LD A,(C)" 1 2 (.plain .ldAAtC),
   ins "DI" 1 1 (.plain .di),
   .hole .undefF4,
   ins "PUSH AF" 1 4 (.plain .pushAf),
   ins "OR d8" 2 2 (.withByte .orD8),
   ins "RST 30H" 1 4 (.plain .rst30),
   ins "LD HL,SP+r8" 2 3 (.withByte .ldHlSpR8),
   ins "LD SP,HL" 1 2 (.plain .ldSpHl),
   ins "LD A,(a16)" 3 4 (.withWord .ldAAtA16),
   ins "EI" 1 1 (.plain .ei),
   .hole .undefFC,
   .hole .undefFD,
   ins "CP d8" 2 2 (.withByte .cpD8),
   ins "RST 38H" 1 4 (.plain .rst38)]

/-- Secondary opcodes 0x00 to 0x0F. -/
def secondaryRow0 : List Desc :=
  [⟨"RLC B", 2, 2, .plain .rlcB⟩,
   ⟨"RLC C", 2, 2, .plain .rlcC⟩,
   ⟨"RLC D", 2, 2, .plain .rlcD⟩,
   ⟨"RLC E", 2, 2, .plain .rlcE⟩,
   ⟨"RLC H", 2, 2, .plain .rlcH⟩,
   ⟨"RLC L", 2, 2, .plain .rlcL⟩,
   ⟨"RLC (HL)", 2, 4, .plain .rlcAtHl⟩,
   ⟨"RLC A", 2, 2, .plain .rlcA⟩,
   ⟨"RRC B", 2, 2, .plain .rrcB⟩,
   ⟨"RRC C", 2, 2, .plain .rrcC⟩,
   ⟨"RRC D", 2, 2, .plain .rrcD⟩,
   ⟨"RRC E", 2, 2, .plain .rrcE⟩,
   ⟨"RRC H", 2, 2, .plain .rrcH⟩,
   ⟨"RRC L", 2, 2, .plain .rrcL⟩,
   ⟨"RRC (HL)", 2, 4, .plain .rrcAtHl⟩,
   ⟨"RRC A", 2, 2, .plain .rrcA⟩]

/-- Secondary opcodes 0x10 to 0x1F. -/
def secondaryRow1 : List Desc :=
  [⟨"RL B", 2, 2, .plain .rlB⟩,
   ⟨"RL C", 2, 2, .plain .rlC⟩,
   ⟨"RL D", 2, 2, .plain .rlD⟩,
   ⟨"RL E", 2, 2, .plain .rlE⟩,
   ⟨"RL H", 2, 2, .plain .rlH⟩,
   ⟨"RL L", 2, 2, .plain .rlL⟩,
   ⟨"RL (HL)", 2, 4, .plain .rlAtHl⟩,
   ⟨"RL A", 2, 2, .plain .rlA⟩,
   ⟨"RR B", 2, 2, .plain .rrB⟩,
   ⟨"RR C", 2, 2, .plain .rrC⟩,
   ⟨"RR D", 2, 2, .plain .rrD⟩,
   ⟨"RR E", 2, 2, .plain .rrE⟩,
   ⟨"RR H", 2, 2, .plain .rrH⟩,
   ⟨"RR L", 2, 2, .plain .rrL⟩,
   ⟨"RR (HL)", 2, 4, .plain .rrAtHl⟩,
   ⟨"RR A", 2, 2, .plain .rrA⟩]

/-- Secondary opcodes 0x20 to 0x2F. -/
def secondaryRow2 : List Desc :=
  [⟨"SLA B", 2, 2, .plain .slaB⟩,
   ⟨"SLA C", 2, 2, .plain .slaC⟩,
   ⟨"SLA D", 2, 2, .plain .slaD⟩,
   ⟨"SLA E", 2, 2, .plain .slaE⟩,
   ⟨"SLA H", 2, 2, .plain .slaH⟩,
   ⟨"SLA L", 2, 2, .plain .slaL⟩,
   ⟨"SLA (HL)", 2, 4, .plain .slaAtHl⟩,
   ⟨"SLA A", 2, 2, .plain .slaA⟩,
   ⟨"SRA B", 2, 2, .plain .sraB⟩,
   ⟨"SRA C", 2, 2, .plain .sraC⟩,
   ⟨"SRA D", 2, 2, .plain .sraD⟩,
   ⟨"SRA E", 2, 2, .plain .sraE⟩,
   ⟨"SRA H", 2, 2, .plain .sraH⟩,
   ⟨"SRA L", 2, 2, .plain .sraL⟩,
   ⟨"SRA (HL)", 2, 4, .plain .sraAtHl⟩,
   ⟨"SRA A", 2, 2, .plain .sraA⟩]

/-- Secondary opcodes 0x30 to 0x3F. -/
def secondaryRow3 : List Desc :=
  [⟨"SWAP B", 2, 2, .plain .swapB⟩,
   ⟨"SWAP C", 2, 2, .plain .swapC⟩,
   ⟨"SWAP D", 2, 2, .plain .swapD⟩,
   ⟨"SWAP E", 2, 2, .plain .swapE⟩,
   ⟨"SWAP H", 2, 2, .plain .swapH⟩,
   ⟨"SWAP L", 2, 2, .plain .swapL⟩,
   ⟨"SWAP (HL)", 2, 4, .plain .swapAtHl⟩,
   ⟨"SWAP A", 2, 2, .plain .swapA⟩,
   ⟨"SRL B", 2, 2, .plain .srlB⟩,
   ⟨"SRL C", 2, 2, .plain .srlC⟩,
   ⟨"SRL D", 2, 2, .plain .srlD⟩,
   ⟨"SRL E", 2, 2, .plain .srlE⟩,
   ⟨"SRL H", 2, 2, .plain .srlH⟩,
   ⟨"SRL L", 2, 2, .plain .srlL⟩,
   ⟨"SRL (HL)", 2, 4, .plain .srlAtHl⟩,
   ⟨"SRL A", 2, 2, .plain .srlA⟩]

/-- Secondary opcodes 0x40 to 0x4F. -/
def secondaryRow4 : List Desc :=
  [⟨"BIT 0,B", 2, 2, .plain .bit0B⟩,
   ⟨"BIT 0,C", 2, 2, .plain .bit0C⟩,
   ⟨"BIT 0,D", 2, 2, .plain .bit0D⟩,
   ⟨"BIT 0,E", 2, 2, .plain .bit0E⟩,
   ⟨"BIT 0,H", 2, 2, .plain .bit0H⟩,
   ⟨"BIT 0,L", 2, 2, .plain .bit0L⟩,
   ⟨"BIT 0,(HL)", 2, 3, .plain .bit0AtHl⟩,
   ⟨"BIT 0,A", 2, 2, .plain .bit0A⟩,
   ⟨"BIT 1,B", 2, 2, .plain .bit1B⟩,
   ⟨"BIT 1,C", 2, 2, .plain .bit1C⟩,
   ⟨"BIT 1,D", 2, 2, .plain .bit1D⟩,
   ⟨"BIT 1,E", 2, 2, .plain .bit1E⟩,
   ⟨"BIT 1,H", 2, 2, .plain .bit1H⟩,
   ⟨"BIT 1,L", 2, 2, .plain .bit1L⟩,
   ⟨"BIT 1,(HL)", 2, 3, .plain .bit1AtHl⟩,
   ⟨"BIT 1,A", 2, 2, .plain .bit1A⟩]

/-- Secondary opcodes 0x50 to 0x5F. -/
def secondaryRow5 : List Desc :=
  [⟨"BIT 2,B", 2, 2, .plain .bit2B⟩,
   ⟨"BIT 2,C", 2, 2, .plain .bit2C⟩,
   ⟨"BIT 2,D", 2, 2, .plain .bit2D⟩,
   ⟨"BIT 2,E", 2, 2, .plain .bit2E⟩,
   ⟨"BIT 2,H", 2, 2, .plain .bit2H⟩,
   ⟨"BIT 2,L", 2, 2, .plain .bit2L⟩,
   ⟨"BIT 2,(HL)", 2, 3, .plain .bit2AtHl⟩,
   ⟨"BIT 2,A", 2, 2, .plain .bit2A⟩,
   ⟨"BIT 3,B", 2, 2, .plain .bit3B⟩,
   ⟨"BIT 3,C", 2, 2, .plain .bit3C⟩,
   ⟨"BIT 3,D", 2, 2, .plain .bit3D⟩,
   ⟨"BIT 3,E", 2, 2, .plain .bit3E⟩,
   ⟨"BIT 3,H", 2, 2, .plain .bit3H⟩,
   ⟨"BIT 3,L", 2, 2, .plain .bit3L⟩,
   ⟨"BIT 3,(HL)", 2, 3, .plain .bit3AtHl⟩,
   ⟨"BIT 3,A", 2, 2, .plain .bit3A⟩]

/-- Secondary opcodes 0x60 to 0x6F. -/
def secondaryRow6 : List Desc :=
  [⟨"BIT 4,B", 2, 2, .plain .bit4B⟩,
   ⟨"BIT 4,C", 2, 2, .plain .bit4C⟩,
   ⟨"BIT 4,D", 2, 2, .plain .bit4D⟩,
   ⟨"BIT 4,E", 2, 2, .plain .bit4E⟩,
   ⟨"BIT 4,H", 2, 2, .plain .bit4H⟩,
   ⟨"BIT 4,L", 2, 2, .plain .bit4L⟩,
   ⟨"BIT 4,(HL)", 2, 3, .plain .bit4AtHl⟩,
   ⟨"BIT 4,A", 2, 2, .plain .bit4A⟩,
   ⟨"BIT 5,B", 2, 2, .plain .bit5B⟩,
   ⟨"BIT 5,C", 2, 2, .plain .bit5C⟩,
   ⟨"BIT 5,D", 2, 2, .plain .bit5D⟩,
   ⟨"BIT 5,E", 2, 2, .plain .bit5E⟩,
   ⟨"BIT 5,H", 2, 2, .plain .bit5H⟩,
   ⟨"BIT 5,L", 2, 2, .plain .bit5L⟩,
   ⟨"BIT 5,(HL)", 2, 3, .plain .bit5AtHl⟩,
   ⟨"BIT 5,A", 2, 2, .plain .bit5A⟩]

/-- Secondary opcodes 0x70 to 0x7F. -/
def secondaryRow7 : List Desc :=
  [⟨"BIT 6,B", 2, 2, .plain .bit6B⟩,
   ⟨"BIT 6,C", 2, 2, .plain .bit6C⟩,
   ⟨"BIT 6,D", 2, 2, .plain .bit6D⟩,
   ⟨"BIT 6,E", 2, 2, .plain .bit6E⟩,
   ⟨"BIT 6,H", 2, 2, .plain .bit6H⟩,
   ⟨"BIT 6,L", 2, 2, .plain .bit6L⟩,
   ⟨"BIT 6,(HL)", 2, 3, .plain .bit6AtHl⟩,
   ⟨"BIT 6,A", 2, 2, .plain .bit6A⟩,
   ⟨"BIT 7,B", 2, 2, .plain .bit7B⟩,
   ⟨"BIT 7,C", 2, 2, .plain .bit7C⟩,
   ⟨"BIT 7,D", 2, 2, .plain .bit7D⟩,
   ⟨"BIT 7,E", 2, 2, .plain .bit7E⟩,
   ⟨"BIT 7,H", 2, 2, .plain .bit7H⟩,
   ⟨"BIT 7,L", 2, 2, .plain .bit7L⟩,
   ⟨"BIT 7,(HL)", 2, 3, .plain .bit7AtHl⟩,
   ⟨"BIT 7,A", 2, 2, .plain .bit7A⟩]

/-- Secondary opcodes 0x80 to 0x8F. -/
def secondaryRow8 : List Desc :=
  [⟨"RES 0,B", 2, 2, .plain .res0B⟩,
   ⟨"RES 0,C", 2, 2, .plain .res0C⟩,
   ⟨"RES 0,D", 2, 2, .plain .res0D⟩,
   ⟨"RES 0,E", 2, 2, .plain .res0E⟩,
   ⟨"RES 0,H", 2, 2, .plain .res0H⟩,
   ⟨"RES 0,L", 2, 2, .plain .res0L⟩,
   ⟨"RES 0,(HL)", 2, 4, .plain .res0AtHl⟩,
   ⟨"RES 0,A", 2, 2, .plain .res0A⟩,
   ⟨"RES 1,B", 2, 2, .plain .res1B⟩,
   ⟨"RES 1,C", 2, 2, .plain .res1C⟩,
   ⟨"RES 1,D", 2, 2, .plain .res1D⟩,
   ⟨"RES 1,E", 2, 2, .plain .res1E⟩,
   ⟨"RES 1,H", 2, 2, .plain .res1H⟩,
   ⟨"RES 1,L", 2, 2, .plain .res1L⟩,
   ⟨"RES 1,(HL)", 2, 4, .plain .res1AtHl⟩,
   ⟨"RES 1,A", 2, 2, .plain .res1A⟩]

/-- Secondary opcodes 0x90 to 0x9F. -/
def secondaryRow9 : List Desc :=
  [⟨"RES 2,B", 2, 2, .plain .res2B⟩,
   ⟨"RES 2,C", 2, 2, .plain .res2C⟩,
   ⟨"RES 2,D", 2, 2, .plain .res2D⟩,
   ⟨"RES 2,E", 2, 2, .plain .res2E⟩,
   ⟨"RES 2,H", 2, 2, .plain .res2H⟩,
   ⟨"RES 2,L", 2, 2, .plain .res2L⟩,
   ⟨"RES 2,(HL)", 2, 4, .plain .res2AtHl⟩,
   ⟨"RES 2,A", 2, 2, .plain .res2A⟩,
   ⟨"RES 3,B", 2, 2, .plain .res3B⟩,
   ⟨"RES 3,C", 2, 2, .plain .res3C⟩,
   ⟨"RES 3,D", 2, 2, .plain .res3D⟩,
   ⟨"RES 3,E", 2, 2, .plain .res3E⟩,
   ⟨"RES 3,H", 2, 2, .plain .res3H⟩,
   ⟨"RES 3,L", 2, 2, .plain .res3L⟩,
   ⟨"RES 3,(HL)", 2, 4, .plain .res3AtHl⟩,
   ⟨"RES 3,A", 2, 2, .plain .res3A⟩]

/-- Secondary opcodes 0xA0 to 0xAF. -/
def secondaryRowA : List Desc :=
  [⟨"RES 4,B", 2, 2, .plain .res4B⟩,
   ⟨"RES 4,C", 2, 2, .plain .res4C⟩,
   ⟨"RES 4,D", 2, 2, .plain .res4D⟩,
   ⟨"RES 4,E", 2, 2, .plain .res4E⟩,
   ⟨"RES 4,H", 2, 2, .plain .res4H⟩,
   ⟨"RES 4,L", 2, 2, .plain .res4L⟩,
   ⟨"RES 4,(HL)", 2, 4, .plain .res4AtHl⟩,
   ⟨"RES 4,A", 2, 2, .plain .res4A⟩,
   ⟨"RES 5,B", 2, 2, .plain .res5B⟩,
   ⟨"RES 5,C", 2, 2, .plain .res5C⟩,
   ⟨"RES 5,D", 2, 2, .plain .res5D⟩,
   ⟨"RES 5,E", 2, 2, .plain .res5E⟩,
   ⟨"RES 5,H", 2, 2, .plain .res5H⟩,
   ⟨"RES 5,L", 2, 2, .plain .res5L⟩,
   ⟨"RES 5,(HL)", 2, 4, .plain .res5AtHl⟩,
   ⟨"RES 5,A", 2, 2, .plain .res5A⟩]

/-- Secondary opcodes 0xB0 to 0xBF. -/
def secondaryRowB : List Desc :=
  [⟨"RES 6,B", 2, 2, .plain .res6B⟩,
   ⟨"RES 6,C", 2, 2, .plain .res6C⟩,
   ⟨"RES 6,D", 2, 2, .plain .res6D⟩,
   ⟨"RES 6,E", 2, 2, .plain .res6E⟩,
   ⟨"RES 6,H", 2, 2, .plain .res6H⟩,
   ⟨"RES 6,L", 2, 2, .plain .res6L⟩,
   ⟨"RES 6,(HL)", 2, 4, .plain .res6AtHl⟩,
   ⟨"RES 6,A", 2, 2, .plain .res6A⟩,
   ⟨"RES 7,B", 2, 2, .plain .res7B⟩,
   ⟨"RES 7,C", 2, 2, .plain .res7C⟩,
   ⟨"RES 7,D", 2, 2, .plain .res7D⟩,
   ⟨"RES 7,E", 2, 2, .plain .res7E⟩,
   ⟨"RES 7,H", 2, 2, .plain .res7H⟩,
   ⟨"RES 7,L", 2, 2, .plain .res7L⟩,
   ⟨"RES 7,(HL)", 2, 4, .plain .res7AtHl⟩,
   ⟨"RES 7,A", 2, 2, .plain .res7A⟩]

/-- Secondary opcodes 0xC0 to 0xCF. -/
def secondaryRowC : List Desc :=
  [⟨"SET 0,B", 2, 2, .plain .set0B⟩,
   ⟨"SET 0,C", 2, 2, .plain .set0C⟩,
   ⟨"SET 0,D", 2, 2, .plain .set0D⟩,
   ⟨"SET 0,E", 2, 2, .plain .set0E⟩,
   ⟨"SET 0,H", 2, 2, .plain .set0H⟩,
   ⟨"SET 0,L", 2, 2, .plain .set0L⟩,
   ⟨"SET 0,(HL)", 2, 4, .plain .set0AtHl⟩,
   ⟨"SET 0,A", 2, 2, .plain .set0A⟩,
   ⟨"SET 1,B", 2, 2, .plain .set1B⟩,
   ⟨"SET 1,C", 2, 2, .plain .set1C⟩,
   ⟨"SET 1,D", 2, 2, .plain .set1D⟩,
   ⟨"SET 1,E", 2, 2, .plain .set1E⟩,
   ⟨"SET 1,H", 2, 2, .plain .set1H⟩,
   ⟨"SET 1,L", 2, 2, .plain .set1L⟩,
   ⟨"SET 1,(HL)", 2, 4, .plain .set1AtHl⟩,
   ⟨"SET 1,A", 2, 2, .plain .set1A⟩]

/-- Secondary opcodes 0xD0 to 0xDF. -/
def secondaryRowD : List Desc :=
  [⟨"SET 2,B", 2, 2, .plain .set2B⟩,
   ⟨"SET 2,C", 2, 2, .plain .set2C⟩,
   ⟨"SET 2,D", 2, 2, .plain .set2D⟩,
   ⟨"SET 2,E", 2, 2, .plain .set2E⟩,
   ⟨"SET 2,H", 2, 2, .plain .set2H⟩,
   ⟨"SET 2,L", 2, 2, .plain .set2L⟩,
   ⟨"SET 2,(HL)", 2, 4, .plain .set2AtHl⟩,
   ⟨"SET 2,A", 2, 2, .plain .set2A⟩,
   ⟨"SET 3,B", 2, 2, .plain .set3B⟩,
   ⟨"SET 3,C", 2, 2, .plain .set3C⟩,
   ⟨"SET 3,D", 2, 2, .plain .set3D⟩,
   ⟨"SET 3,E", 2, 2, .plain .set3E⟩,
   ⟨"SET 3,H", 2, 2, .plain .set3H⟩,
   ⟨"SET 3,L", 2, 2, .plain .set3L⟩,
   ⟨"SET 3,(HL)", 2, 4, .plain .set3AtHl⟩,
   ⟨"SET 3,A", 2, 2, .plain .set3A⟩]

/-- Secondary opcodes 0xE0 to 0xEF. -/
def secondaryRowE : List Desc :=
  [⟨"SET 4,B", 2, 2, .plain .set4B⟩,
   ⟨"SET 4,C", 2, 2, .plain .set4C⟩,
   ⟨"SET 4,D", 2, 2, .plain .set4D⟩,
   ⟨"SET 4,E", 2, 2, .plain .set4E⟩,
   ⟨"SET 4,H", 2, 2, .plain .set4H⟩,
   ⟨"SET 4,L", 2, 2, .plain .set4L⟩,
   ⟨"SET 4,(HL)", 2, 4, .plain .set4AtHl⟩,
   ⟨"SET 4,A", 2, 2, .plain .set4A⟩,
   ⟨"SET 5,B", 2, 2, .plain .set5B⟩,
   ⟨"SET 5,C", 2, 2, .plain .set5C⟩,
   ⟨"SET 5,D", 2, 2, .plain .set5D⟩,
   ⟨"SET 5,E", 2, 2, .plain .set5E⟩,
   ⟨"SET 5,H", 2, 2, .plain .set5H⟩,
   ⟨"SET 5,L", 2, 2, .plain .set5L⟩,
   ⟨"SET 5,(HL)", 2, 4, .plain .set5AtHl⟩,
   ⟨"SET 5,A", 2, 2, .plain .set5A⟩]

/-- Secondary opcodes 0xF0 to 0xFF. -/
def secondaryRowF : List Desc :=
  [⟨"SET 6,B", 2, 2, .plain .set6B⟩,
   ⟨"SET 6,C", 2, 2, .plain .set6C⟩,
   ⟨"SET 6,D", 2, 2, .plain .set6D⟩,
   ⟨"SET 6,E", 2, 2, .plain .set6E⟩,
   ⟨"SET 6,H", 2, 2, .plain .set6H⟩,
   ⟨"SET 6,L", 2, 2, .plain .set6L⟩,
   ⟨"SET 6,(HL)", 2, 4, .plain .set6AtHl⟩,
   ⟨"SET 6,A", 2, 2, .plain .set6A⟩,
   ⟨"SET 7,B", 2, 2, .plain .set7B⟩,
   ⟨"SET 7,C", 2, 2, .plain .set7C⟩,
   ⟨"SET 7,D", 2, 2, .plain .set7D⟩,
   ⟨"SET 7,E", 2, 2, .plain .set7E⟩,
   ⟨"SET 7,H", 2, 2, .plain .set7H⟩,
   ⟨"SET 7,L", 2, 2, .plain .set7L⟩,
   ⟨"SET 7,(HL)", 2, 4, .plain .set7AtHl⟩,
   ⟨"SET 7,A", 2, 2, .plain .set7A⟩]

/-- The primary table (30_encoding.md R87): 16 rows of 16 entries, by high and low nibble of the opcode. -/
def primaryGrid : List (List Entry) :=
  [primaryRow0, primaryRow1, primaryRow2, primaryRow3, primaryRow4, primaryRow5, primaryRow6, primaryRow7,
   primaryRow8, primaryRow9, primaryRowA, primaryRowB, primaryRowC, primaryRowD, primaryRowE, primaryRowF]

/-- The secondary table (30_encoding.md R88). -/
def secondaryGrid : List (List Desc) :=
  [secondaryRow0, secondaryRow1, secondaryRow2, secondaryRow3, secondaryRow4, secondaryRow5, secondaryRow6, secondaryRow7,
   secondaryRow8, secondaryRow9, secondaryRowA, secondaryRowB, secondaryRowC, secondaryRowD, secondaryRowE, secondaryRowF]

/-- The entry of a grid for an opcode byte; `out` is never reached, every grid being 16 by 16. -/
def gridAt {α : Type} (grid : List (List α)) (out : α) (op : Byte) : α :=
  (grid.getD (op.toNat / 16) []).getD (op.toNat % 16) out

/-- The primary table's entry for an opcode byte. -/
def primary (op : Byte) : Entry := gridAt primaryGrid .bare op

/-- The secondary table's descriptor for a secondary opcode. -/
def secondary (op : Byte) : Desc := gridAt secondaryGrid ⟨"", 0, 0, .plain .nop⟩ op

/-- The value of the secondary-prefix byte (30_encoding.md R82). -/
def prefixByte : Byte := 0xCB

/-- Why bytes decode to nothing: there are fewer of them than the instruction has (30_encoding.md R81). -/
inductive DecodeError where
  | noBytes
  | truncated
  deriving DecidableEq, Repr

/-- Apply a handler to the parameter bytes (30_encoding.md R83: the first fetched byte is the low one). -/
def Handler.apply : Handler → List Byte → Except DecodeError (Instr × List Byte)
  | .plain i, ps => .ok (i, ps)
  | .withByte mk, p0 :: ps => .ok (mk p0, ps)
  | .withByte _, [] => .error .truncated
  | .withWord mk, p0 :: p1 :: ps => .ok (mk (joinBytes p1 p0), ps)
  | .withWord _, [_] => .error .truncated
  | .withWord _, [] => .error .truncated

/-- The decoder: the instruction at the head of a list of bytes and the bytes after it (30_encoding.md R80 to R83, R89). The prefix
byte with nothing after it is the bare prefix, which no memory content decodes to (log 7). -/
def decode : List Byte → Except DecodeError (Instr × List Byte)
  | [] => .error .noBytes
  | op :: ps =>
    match primary op with
    | .ins d => d.handler.apply ps
    | .hole i => .ok (i, ps)
    | .bare =>
      match ps with
      | [] => .ok (.prefixCb, [])
      | b :: rest => (secondary b).handler.apply rest

/-! ### The encoder -/

/-- The register field (30_encoding.md R84). -/
def Reg8.code : Reg8 → Byte
  | .b => 0
  | .c => 1
  | .d => 2
  | .e => 3
  | .h => 4
  | .l => 5
  | .a => 7

/-- The pair field `rr` (30_encoding.md R85). -/
def RegPair.code : RegPair → Byte
  | .bc => 0
  | .de => 1
  | .hl => 2
  | .sp => 3

/-- The pair field `rr2` (30_encoding.md R85). -/
def StackPair.code : StackPair → Byte
  | .bc => 0
  | .de => 1
  | .hl => 2
  | .af => 3

/-- The condition field `cc` (30_encoding.md R85). -/
def Cond.code : Cond → Byte
  | .nz => 0
  | .z => 1
  | .nc => 2
  | .c => 3

/-- The field `alu` (30_encoding.md R85). -/
def AluOp.code : AluOp → Byte
  | .add => 0
  | .adc => 1
  | .sub => 2
  | .sbc => 3
  | .land => 4
  | .lxor => 5
  | .lor => 6
  | .cp => 7

/-- The field `rot` (30_encoding.md R85). -/
def RotOp.code : RotOp → Byte
  | .rlc => 0
  | .rrc => 1
  | .rl => 2
  | .rr => 3
  | .sla => 4
  | .sra => 5
  | .swap => 6
  | .srl => 7

/-- The 3-bit field as a byte. -/
def Bit3.code (n : Bit3) : Byte := BitVec.ofNat 8 n.val

/-- An opcode byte followed by a 16-bit immediate, low byte first (30_encoding.md R80). -/
def opWord (op : Byte) (nn : Word) : List Byte := [op, loByte nn, hiByte nn]

/-- The bytes of an operand form, by the encoding each rule gives. -/
def Form.encode : Form → List Byte
  -- R130 to R134
  | .ldRR dst src => [0x40 + 8 * dst.code + src.code]
  | .ldRD8 dst n => [0x06 + 8 * dst.code, n]
  | .ldRAtHl dst => [0x46 + 8 * dst.code]
  | .ldAtHlR src => [0x70 + src.code]
  | .ldAtHlD8 n => [0x36, n]
  -- R135 to R148
  | .ldAAtBc => [0x0A]
  | .ldAAtDe => [0x1A]
  | .ldAtBcA => [0x02]
  | .ldAtDeA => [0x12]
  | .ldAAtA16 nn => opWord 0xFA nn
  | .ldAtA16A nn => opWord 0xEA nn
  | .ldhAtA8A n => [0xE0, n]
  | .ldhAAtA8 n => [0xF0, n]
  | .ldAtCA => [0xE2]
  | .ldAAtC => [0xF2]
  | .ldAtHliA => [0x22]
  | .ldAAtHli => [0x2A]
  | .ldAtHldA => [0x32]
  | .ldAAtHld => [0x3A]
  -- R150 to R155
  | .ldRrD16 p nn => opWord (0x01 + 16 * p.code) nn
  | .ldAtA16Sp nn => opWord 0x08 nn
  | .ldSpHl => [0xF9]
  | .ldHlSpR8 e => [0xF8, e]
  | .push p => [0xC5 + 16 * p.code]
  | .pop p => [0xC1 + 16 * p.code]
  -- R160 to R191
  | .aluR op src => [0x80 + 8 * op.code + src.code]
  | .aluAtHl op => [0x86 + 8 * op.code]
  | .aluD8 op n => [0xC6 + 8 * op.code, n]
  | .incR dst => [0x04 + 8 * dst.code]
  | .incAtHl => [0x34]
  | .decR dst => [0x05 + 8 * dst.code]
  | .decAtHl => [0x35]
  | .daa => [0x27]
  | .cpl => [0x2F]
  | .scf => [0x37]
  | .ccf => [0x3F]
  -- R200 to R203
  | .addHlRr p => [0x09 + 16 * p.code]
  | .incRr p => [0x03 + 16 * p.code]
  | .decRr p => [0x0B + 16 * p.code]
  | .addSpR8 e => [0xE8, e]
  -- R205 to R208
  | .rlca => [0x07]
  | .rrca => [0x0F]
  | .rla => [0x17]
  | .rra => [0x1F]
  -- R210 to R220
  | .jp nn => opWord 0xC3 nn
  | .jpCc cc nn => opWord (0xC2 + 8 * cc.code) nn
  | .jpAtHl => [0xE9]
  | .jr e => [0x18, e]
  | .jrCc cc e => [0x20 + 8 * cc.code, e]
  | .call nn => opWord 0xCD nn
  | .callCc cc nn => opWord (0xC4 + 8 * cc.code) nn
  | .ret => [0xC9]
  | .retCc cc => [0xC0 + 8 * cc.code]
  | .reti => [0xD9]
  | .rst n => [0xC7 + 8 * n.code]
  -- R225 to R231
  | .nop => [0x00]
  | .stop n => [0x10, n]
  | .halt => [0x76]
  | .di => [0xF3]
  | .ei => [0xFB]
  | .prefixCb => [prefixByte]
  | .undef op => [op]
  -- R236 to R257
  | .rotR op r => [prefixByte, 8 * op.code + r.code]
  | .rotAtHl op => [prefixByte, 8 * op.code + 6]
  | .bitR b r => [prefixByte, 0x40 + 8 * b.code + r.code]
  | .bitAtHl b => [prefixByte, 0x46 + 8 * b.code]
  | .resR b r => [prefixByte, 0x80 + 8 * b.code + r.code]
  | .resAtHl b => [prefixByte, 0x86 + 8 * b.code]
  | .setR b r => [prefixByte, 0xC0 + 8 * b.code + r.code]
  | .setAtHl b => [prefixByte, 0xC6 + 8 * b.code]

/-- The bytes of an instruction, in fetch order. -/
def encode (i : Instr) : List Byte := i.form.encode

/-! ### The descriptor of an instruction, and the host's table words -/

/-- The descriptor that the first bytes of an instruction resolve to (10_state.md R22 `cur.desc`): none for no byte, for an opcode
without a handler, and while only the prefix byte is known. -/
def descOf : List Byte → Option Desc
  | [] => none
  | op :: ps =>
    match primary op with
    | .ins d => some d
    | .hole _ => none
    | .bare =>
      match ps with
      | [] => none
      | b :: _ => some (secondary b)

/-- The descriptor of an instruction. -/
def Instr.desc (i : Instr) : Option Desc := descOf (encode i)

/-- The bytes of a table word: bits 7..0 the first byte and later bytes above it, every bit above `nbits` zero, as many bytes as the
longest instruction has. A 16-bit word whose HIGH byte is the prefix 0xCB is a row of the secondary table, which
spec/opcode_table.json numbers with byte 0 in the most significant position (30_encoding.md R92, log 8). -/
def tableBytes (nbits w : Nat) : List Byte :=
  let v := w % 2 ^ nbits
  if nbits = 16 ∧ v / 256 = 0xCB then [prefixByte, BitVec.ofNat 8 v, 0]
  else [BitVec.ofNat 8 v, BitVec.ofNat 8 (v / 2 ^ 8), BitVec.ofNat 8 (v / 2 ^ 16)]

/-- The instruction the decoder reads from a table word. The 8-bit row of the prefix byte is that one byte (log 7); every other
word is laid out with zeros after it. -/
def decodeTableWord (nbits w : Nat) : Option Instr :=
  let bytes := if nbits ≤ 8 ∧ w % 2 ^ nbits = 0xCB then [prefixByte] else tableBytes nbits w
  match decode bytes with
  | .ok (i, _) => some i
  | .error _ => none

end Sys2Proof
end

