-- ==== Sys2Proof/Machine/Flags.lean ====
section
/-! DEFINITION. The flag register (10_state.md R13, R14) and every flag computation the spec gives: the six primitives
(40_engine_and_alu_primitives.md R115 to R121), ADD8, SUB8, LOGIC (43_alu8.md R195 to R197), DAA (R188), the rotates and shifts
(45_rotate_a.md, 48_cb_prefixed.md). Sums and differences are taken on natural numbers and narrowed at the end. -/

namespace Sys2Proof.Machine

/-- The byte `F` of four flags: Z bit 7, N bit 6, H bit 5, C bit 4, bits 3:0 zero (10_state.md R13, R14). -/
def packF (z n h c : Bool) : Byte :=
  BitVec.ofBool z ++ BitVec.ofBool n ++ BitVec.ofBool h ++ BitVec.ofBool c ++ 0#4

/-- `F.Z` (10_state.md R14). -/
def State.zf (s : State) : Bool := s.f.getLsbD 7
/-- `F.N` (10_state.md R14). -/
def State.nf (s : State) : Bool := s.f.getLsbD 6
/-- `F.H` (10_state.md R14). -/
def State.hf (s : State) : Bool := s.f.getLsbD 5
/-- `F.C` (10_state.md R14). -/
def State.cf (s : State) : Bool := s.f.getLsbD 4

/-- Every write of `F` as a byte stores `v & 0xF0` (10_state.md R13). -/
def State.writeF (s : State) (v : Byte) : State := { s with f := v &&& 0xF0 }

/-- Write the four flags. -/
def State.setFlags (s : State) (z n h c : Bool) : State := s.writeF (packF z n h c)

/-- A result of width `w` with the four flags it leaves. -/
structure Flagged (w : Nat) where
  val : BitVec w
  z : Bool
  n : Bool
  h : Bool
  c : Bool
  deriving DecidableEq, Repr

/-- Write the flags of a result. -/
def State.putFlags {w : Nat} (s : State) (o : Flagged w) : State := s.setFlags o.z o.n o.h o.c

/-! ### The primitives (40_engine_and_alu_primitives.md) -/

/-- `INC8(v)` (R115), `c` being the carry flag it leaves untouched. -/
def inc8 (v : Byte) (c : Bool) : Flagged 8 :=
  let r := BitVec.ofNat 8 (v.toNat + 1)
  { val := r, z := r == 0, n := false, h := v.toNat % 16 == 0xF, c := c }

/-- `DEC8(v)` (R116, with 90_conflicts.md C1), `c` being the carry flag it leaves untouched. -/
def dec8 (v : Byte) (c : Bool) : Flagged 8 :=
  let r := BitVec.ofNat 8 (v.toNat + 255)
  { val := r, z := r == 0, n := true, h := v.toNat % 16 == 0x0, c := c }

/-- `INC16(w)` (R117); no flag. -/
def inc16 (w : Word) : Word := w + 1

/-- `DEC16(w)` (R118); no flag. -/
def dec16 (w : Word) : Word := w - 1

/-- `ADD16(a, b)` (R119): Z and N cleared, H the carry out of bit 11, C the carry out of bit 15. -/
def add16 (a b : Word) : Flagged 16 :=
  { val := BitVec.ofNat 16 (a.toNat + b.toNat), z := false, n := false,
    h := decide (a.toNat % 0x1000 + b.toNat % 0x1000 > 0x0FFF),
    c := decide (a.toNat + b.toNat > 0xFFFF) }

/-- `ADD16` with an 8-bit operand, zero-extended (R120); on the primitive's interface only, no instruction uses it. -/
def add16Byte (a : Word) (b8 : Byte) : Flagged 16 := add16 a (zext16 b8)

/-- `ADDSP(base, e)` (R121): flags from the unsigned low-byte addition, also for a negative offset. -/
def addSp (base : Word) (e : Byte) : Flagged 16 :=
  { val := base + sext16 e, z := false, n := false,
    h := decide (base.toNat % 16 + e.toNat % 16 > 0xF),
    c := decide (base.toNat % 256 + e.toNat > 0xFF) }

/-! ### 8-bit arithmetic and logic (43_alu8.md) -/

/-- `ADD8(b, cin)` (R195) on the accumulator value `a`. -/
def add8 (a b : Byte) (cin : Bool) : Flagged 8 :=
  let s := a.toNat + b.toNat + cin.toNat
  { val := BitVec.ofNat 8 s, z := s % 256 == 0, n := false,
    h := decide (a.toNat % 16 + b.toNat % 16 + cin.toNat > 0xF),
    c := decide (s > 0xFF) }

/-- `SUB8(b, cin)` (R196) on the accumulator value `a`; the difference is taken modulo 256 by adding 512 first. -/
def sub8 (a b : Byte) (cin : Bool) : Flagged 8 :=
  let diff := a.toNat + 512 - (b.toNat + cin.toNat)
  { val := BitVec.ofNat 8 diff, z := diff % 256 == 0, n := true,
    h := decide (a.toNat % 16 < b.toNat % 16 + cin.toNat),
    c := decide (a.toNat < b.toNat + cin.toNat) }

/-- `LOGIC(AND, b)` (R197). -/
def and8 (a b : Byte) : Flagged 8 :=
  { val := a &&& b, z := (a &&& b) == 0, n := false, h := true, c := false }

/-- `LOGIC(XOR, b)` (R197). -/
def xor8 (a b : Byte) : Flagged 8 :=
  { val := a ^^^ b, z := (a ^^^ b) == 0, n := false, h := false, c := false }

/-- `LOGIC(OR, b)` (R197). -/
def or8 (a b : Byte) : Flagged 8 :=
  { val := a ||| b, z := (a ||| b) == 0, n := false, h := false, c := false }

/-- `DAA` (R188) on the value of `A` and the flags N, H, C before it. -/
def daa8 (a : Byte) (n h c : Bool) : Flagged 8 :=
  let low := h || (!n && decide (a.toNat % 16 > 9))
  let high := c || (!n && decide (a.toNat > 0x99))
  let corr : Byte := (if low then 0x06 else 0x00) ||| (if high then 0x60 else 0x00)
  let r := if n then a - corr else a + corr
  { val := r, z := r == 0, n := n, h := false, c := high }

/-! ### Rotates and shifts (45_rotate_a.md, 48_cb_prefixed.md) -/

/-- The value of a rotate or shift by one place, `cin` being the carry flag before it (R236 to R251). -/
def rotVal (op : RotOp) (v : Byte) (cin : Bool) : Byte :=
  match op with
  | .rlc => v.extractLsb' 0 7 ++ v.extractLsb' 7 1
  | .rrc => v.extractLsb' 0 1 ++ v.extractLsb' 1 7
  | .rl => v.extractLsb' 0 7 ++ BitVec.ofBool cin
  | .rr => BitVec.ofBool cin ++ v.extractLsb' 1 7
  | .sla => v.extractLsb' 0 7 ++ 0#1
  | .sra => v.extractLsb' 7 1 ++ v.extractLsb' 1 7
  | .swap => v.extractLsb' 0 4 ++ v.extractLsb' 4 4
  | .srl => 0#1 ++ v.extractLsb' 1 7

/-- The bit shifted out, which C receives; `SWAP` clears C (48_cb_prefixed.md section 1). -/
def rotOut (op : RotOp) (v : Byte) : Bool :=
  match op with
  | .rlc => v.getLsbD 7
  | .rrc => v.getLsbD 0
  | .rl => v.getLsbD 7
  | .rr => v.getLsbD 0
  | .sla => v.getLsbD 7
  | .sra => v.getLsbD 0
  | .swap => false
  | .srl => v.getLsbD 0

/-- A prefixed rotate, shift or SWAP: Z computed, N and H cleared (48_cb_prefixed.md R236 to R251). -/
def rot8 (op : RotOp) (v : Byte) (cin : Bool) : Flagged 8 :=
  { val := rotVal op v cin, z := rotVal op v cin == 0, n := false, h := false, c := rotOut op v }

/-- A rotate of the accumulator: as `rot8` but Z always cleared (45_rotate_a.md R205 to R208). -/
def rotA8 (op : RotOp) (v : Byte) (cin : Bool) : Flagged 8 := { rot8 op v cin with z := false }

/-- The flags of `BIT b,x` (48_cb_prefixed.md R252, R253): Z the complement of the bit, C kept; the value is unused. -/
def bitTest (b : Nat) (v : Byte) (c : Bool) : Flagged 8 :=
  { val := v, z := !v.getLsbD b, n := false, h := true, c := c }

/-- `RES b` (48_cb_prefixed.md R254): clear one bit. -/
def resBit (b : Nat) (v : Byte) : Byte := v &&& ~~~(bitMask b)

/-- `SET b` (48_cb_prefixed.md R256): set one bit. -/
def setBit (b : Nat) (v : Byte) : Byte := v ||| bitMask b

end Sys2Proof.Machine
end

