-- ==== Sys2Proof/Machine/Operands.lean ====
section
/-! DEFINITION. Operand forms: the 8-bit register field (30_encoding.md R84), the pair fields and the condition field (R85), the pairs
as views (10_state.md R12). -/

namespace Sys2Proof.Machine

/-- Read `x[i]` for a register `i` (30_encoding.md R84). -/
def State.getReg (s : State) : Reg8 → Byte
  | .b => s.b
  | .c => s.c
  | .d => s.d
  | .e => s.e
  | .h => s.h
  | .l => s.l
  | .a => s.a

/-- Write `x[i]` for a register `i` (30_encoding.md R84); no other register changes (10_state.md R11). -/
def State.setReg (s : State) (r : Reg8) (v : Byte) : State :=
  match r with
  | .b => { s with b := v }
  | .c => { s with c := v }
  | .d => { s with d := v }
  | .e => { s with e := v }
  | .h => { s with h := v }
  | .l => { s with l := v }
  | .a => { s with a := v }

/-- `AF = {A, F}` (10_state.md R12). -/
def State.af (s : State) : Word := joinBytes s.a s.f
/-- `BC = {B, C}` (10_state.md R12). -/
def State.bc (s : State) : Word := joinBytes s.b s.c
/-- `DE = {D, E}` (10_state.md R12). -/
def State.de (s : State) : Word := joinBytes s.d s.e
/-- `HL = {H, L}` (10_state.md R12). -/
def State.hl (s : State) : Word := joinBytes s.h s.l

/-- `AF <- w` (10_state.md R12): `A <- w[15:8]`, `F <- w[7:0] & 0xF0`. -/
def State.setAf (s : State) (w : Word) : State := { s.writeF (loByte w) with a := hiByte w }
/-- `BC <- w` (10_state.md R12). -/
def State.setBc (s : State) (w : Word) : State := { s with b := hiByte w, c := loByte w }
/-- `DE <- w` (10_state.md R12). -/
def State.setDe (s : State) (w : Word) : State := { s with d := hiByte w, e := loByte w }
/-- `HL <- w` (10_state.md R12). -/
def State.setHl (s : State) (w : Word) : State := { s with h := hiByte w, l := loByte w }

/-- Read `rr[p]` (30_encoding.md R85). -/
def State.getPair (s : State) : RegPair → Word
  | .bc => s.bc
  | .de => s.de
  | .hl => s.hl
  | .sp => s.sp

/-- Write `rr[p]` (30_encoding.md R85). -/
def State.setPair (s : State) (p : RegPair) (w : Word) : State :=
  match p with
  | .bc => s.setBc w
  | .de => s.setDe w
  | .hl => s.setHl w
  | .sp => { s with sp := w }

/-- Read `rr2[p]` (30_encoding.md R85). -/
def State.getStackPair (s : State) : StackPair → Word
  | .bc => s.bc
  | .de => s.de
  | .hl => s.hl
  | .af => s.af

/-- Write `rr2[p]` (30_encoding.md R85). -/
def State.setStackPair (s : State) (p : StackPair) (w : Word) : State :=
  match p with
  | .bc => s.setBc w
  | .de => s.setDe w
  | .hl => s.setHl w
  | .af => s.setAf w

/-- The condition test `cond(cc)` (46_control.md R221). -/
def State.cond (s : State) : Cond → Bool
  | .nz => !s.zf
  | .z => s.zf
  | .nc => !s.cf
  | .c => s.cf

/-- The address `0xFF00 + C` of `LD (C),A` and `LD A,(C)` (41_load8.md R143, R144). -/
def State.highC (s : State) : Word := highPage s.c

/-- The target of a relative jump: `(PC + sext_16(e)) mod 2^16`, `PC` being past the instruction (46_control.md R213). -/
def State.relTarget (s : State) (e : Byte) : Word := s.pc + sext16 e

/-- The restart target `8 * n` (46_control.md R220). -/
def rstTarget (n : Bit3) : Word := BitVec.ofNat 16 (8 * n.val)

end Sys2Proof.Machine
end

