-- ==== Sys2Proof/Machine/Alu16.lean ====
section
/-! DEFINITION. 16-bit arithmetic (44_alu16.md R200 to R203). -/

namespace Sys2Proof.Machine

/-- R200: `HL <- ADD16(HL, rr[p])`; Z is cleared (90_conflicts.md C5). -/
def opAddHlRr (p : RegPair) (s : State) : Result :=
  .next ((s.putFlags (add16 s.hl (s.getPair p))).setHl (add16 s.hl (s.getPair p)).val)

/-- R201: `rr[p] <- INC16(rr[p])`, no flag. -/
def opIncRr (p : RegPair) (s : State) : Result := .next (s.setPair p (inc16 (s.getPair p)))

/-- R202: `rr[p] <- DEC16(rr[p])`, no flag. -/
def opDecRr (p : RegPair) (s : State) : Result := .next (s.setPair p (dec16 (s.getPair p)))

/-- R203: `SP <- ADDSP(SP, r8)`. -/
def opAddSpR8 (e : Byte) (s : State) : Result :=
  .next { s.putFlags (addSp s.sp e) with sp := (addSp s.sp e).val }

/-! ### The meanings, one per instruction -/

-- R200
def execAddHlBc (s : State) : Result := opAddHlRr .bc s
def execAddHlDe (s : State) : Result := opAddHlRr .de s
def execAddHlHl (s : State) : Result := opAddHlRr .hl s
def execAddHlSp (s : State) : Result := opAddHlRr .sp s
-- R201
def execIncBc (s : State) : Result := opIncRr .bc s
def execIncDe (s : State) : Result := opIncRr .de s
def execIncHl (s : State) : Result := opIncRr .hl s
def execIncSp (s : State) : Result := opIncRr .sp s
-- R202
def execDecBc (s : State) : Result := opDecRr .bc s
def execDecDe (s : State) : Result := opDecRr .de s
def execDecHl (s : State) : Result := opDecRr .hl s
def execDecSp (s : State) : Result := opDecRr .sp s
-- R203
def execAddSpR8 (e : Byte) (s : State) : Result := opAddSpR8 e s

end Sys2Proof.Machine
end

