-- ==== Sys2Proof/Machine/Alu8.lean ====
section
/-! DEFINITION. 8-bit arithmetic and logic (43_alu8.md R160 to R191). -/

namespace Sys2Proof.Machine

/-- The operation `alu` on the accumulator and a second operand (30_encoding.md R85, 43_alu8.md R195 to R197): value and flags. `cin` is
the carry flag before it, which only ADC and SBC read. -/
def aluOut (op : AluOp) (a b : Byte) (cin : Bool) : Flagged 8 :=
  match op with
  | .add => add8 a b false
  | .adc => add8 a b cin
  | .sub => sub8 a b false
  | .sbc => sub8 a b cin
  | .land => and8 a b
  | .lxor => xor8 a b
  | .lor => or8 a b
  | .cp => sub8 a b false

/-- Whether the result goes to A: every operation but CP (43_alu8.md R181). -/
def aluWritesA : AluOp → Bool
  | .cp => false
  | .add | .adc | .sub | .sbc | .land | .lxor | .lor => true

/-- Apply an 8-bit operation with second operand `b`: the flags, and A unless the operation is CP. -/
def State.alu (s : State) (op : AluOp) (b : Byte) : State :=
  let o := aluOut op s.a b s.cf
  let s1 := s.putFlags o
  if aluWritesA op then { s1 with a := o.val } else s1

/-- The register forms: R160, R163, R166, R169, R172, R175, R178, R181. -/
def opAluR (op : AluOp) (r : Reg8) (s : State) : Result := .next (s.alu op (s.getReg r))

/-- The `(HL)` forms: R161, R164, R167, R170, R173, R176, R179, R182. -/
def opAluAtHl (op : AluOp) (s : State) : Result := s.withRead s.hl fun b => .next (s.alu op b)

/-- The immediate forms: R162, R165, R168, R171, R174, R177, R180, R183. -/
def opAluD8 (op : AluOp) (n : Byte) (s : State) : Result := .next (s.alu op n)

/-- R184: `x[dst] <- INC8(x[dst])`. -/
def opIncR (r : Reg8) (s : State) : Result :=
  .next ((s.putFlags (inc8 (s.getReg r) s.cf)).setReg r (inc8 (s.getReg r) s.cf).val)

/-- R186: `x[dst] <- DEC8(x[dst])`. -/
def opDecR (r : Reg8) (s : State) : Result :=
  .next ((s.putFlags (dec8 (s.getReg r) s.cf)).setReg r (dec8 (s.getReg r) s.cf).val)

/-- R185: read, then flags, then write; a faulting write leaves the flags written. -/
def opIncAtHl (s : State) : Result :=
  s.withRead s.hl fun v => (s.putFlags (inc8 v s.cf)).withWrite s.hl (inc8 v s.cf).val .next

/-- R187: read, then flags, then write; a faulting write leaves the flags written. -/
def opDecAtHl (s : State) : Result :=
  s.withRead s.hl fun v => (s.putFlags (dec8 v s.cf)).withWrite s.hl (dec8 v s.cf).val .next

/-- R188. -/
def opDaa (s : State) : Result :=
  .next { s.putFlags (daa8 s.a s.nf s.hf s.cf) with a := (daa8 s.a s.nf s.hf s.cf).val }

/-- R189: `A <- A ^ 0xFF`, N and H set, Z and C unchanged. -/
def opCpl (s : State) : Result := .next { s.setFlags s.zf true true s.cf with a := s.a ^^^ 0xFF }

/-- R190: C set, N and H cleared, Z unchanged. -/
def opScf (s : State) : Result := .next (s.setFlags s.zf false false true)

/-- R191: C complemented, N and H cleared, Z unchanged. -/
def opCcf (s : State) : Result := .next (s.setFlags s.zf false false (!s.cf))

/-! ### The meanings, one per instruction -/

-- R160
def execAddAB (s : State) : Result := opAluR .add .b s
def execAddAC (s : State) : Result := opAluR .add .c s
def execAddAD (s : State) : Result := opAluR .add .d s
def execAddAE (s : State) : Result := opAluR .add .e s
def execAddAH (s : State) : Result := opAluR .add .h s
def execAddAL (s : State) : Result := opAluR .add .l s
def execAddAA (s : State) : Result := opAluR .add .a s
-- R161
def execAddAAtHl (s : State) : Result := opAluAtHl .add s
-- R162
def execAddAD8 (n : Byte) (s : State) : Result := opAluD8 .add n s
-- R163
def execAdcAB (s : State) : Result := opAluR .adc .b s
def execAdcAC (s : State) : Result := opAluR .adc .c s
def execAdcAD (s : State) : Result := opAluR .adc .d s
def execAdcAE (s : State) : Result := opAluR .adc .e s
def execAdcAH (s : State) : Result := opAluR .adc .h s
def execAdcAL (s : State) : Result := opAluR .adc .l s
def execAdcAA (s : State) : Result := opAluR .adc .a s
-- R164
def execAdcAAtHl (s : State) : Result := opAluAtHl .adc s
-- R165
def execAdcAD8 (n : Byte) (s : State) : Result := opAluD8 .adc n s
-- R166
def execSubB (s : State) : Result := opAluR .sub .b s
def execSubC (s : State) : Result := opAluR .sub .c s
def execSubD (s : State) : Result := opAluR .sub .d s
def execSubE (s : State) : Result := opAluR .sub .e s
def execSubH (s : State) : Result := opAluR .sub .h s
def execSubL (s : State) : Result := opAluR .sub .l s
def execSubA (s : State) : Result := opAluR .sub .a s
-- R167
def execSubAtHl (s : State) : Result := opAluAtHl .sub s
-- R168
def execSubD8 (n : Byte) (s : State) : Result := opAluD8 .sub n s
-- R169
def execSbcAB (s : State) : Result := opAluR .sbc .b s
def execSbcAC (s : State) : Result := opAluR .sbc .c s
def execSbcAD (s : State) : Result := opAluR .sbc .d s
def execSbcAE (s : State) : Result := opAluR .sbc .e s
def execSbcAH (s : State) : Result := opAluR .sbc .h s
def execSbcAL (s : State) : Result := opAluR .sbc .l s
def execSbcAA (s : State) : Result := opAluR .sbc .a s
-- R170
def execSbcAAtHl (s : State) : Result := opAluAtHl .sbc s
-- R171
def execSbcAD8 (n : Byte) (s : State) : Result := opAluD8 .sbc n s
-- R172
def execAndB (s : State) : Result := opAluR .land .b s
def execAndC (s : State) : Result := opAluR .land .c s
def execAndD (s : State) : Result := opAluR .land .d s
def execAndE (s : State) : Result := opAluR .land .e s
def execAndH (s : State) : Result := opAluR .land .h s
def execAndL (s : State) : Result := opAluR .land .l s
def execAndA (s : State) : Result := opAluR .land .a s
-- R173
def execAndAtHl (s : State) : Result := opAluAtHl .land s
-- R174
def execAndD8 (n : Byte) (s : State) : Result := opAluD8 .land n s
-- R175
def execXorB (s : State) : Result := opAluR .lxor .b s
def execXorC (s : State) : Result := opAluR .lxor .c s
def execXorD (s : State) : Result := opAluR .lxor .d s
def execXorE (s : State) : Result := opAluR .lxor .e s
def execXorH (s : State) : Result := opAluR .lxor .h s
def execXorL (s : State) : Result := opAluR .lxor .l s
def execXorA (s : State) : Result := opAluR .lxor .a s
-- R176
def execXorAtHl (s : State) : Result := opAluAtHl .lxor s
-- R177
def execXorD8 (n : Byte) (s : State) : Result := opAluD8 .lxor n s
-- R178
def execOrB (s : State) : Result := opAluR .lor .b s
def execOrC (s : State) : Result := opAluR .lor .c s
def execOrD (s : State) : Result := opAluR .lor .d s
def execOrE (s : State) : Result := opAluR .lor .e s
def execOrH (s : State) : Result := opAluR .lor .h s
def execOrL (s : State) : Result := opAluR .lor .l s
def execOrA (s : State) : Result := opAluR .lor .a s
-- R179
def execOrAtHl (s : State) : Result := opAluAtHl .lor s
-- R180
def execOrD8 (n : Byte) (s : State) : Result := opAluD8 .lor n s
-- R181
def execCpB (s : State) : Result := opAluR .cp .b s
def execCpC (s : State) : Result := opAluR .cp .c s
def execCpD (s : State) : Result := opAluR .cp .d s
def execCpE (s : State) : Result := opAluR .cp .e s
def execCpH (s : State) : Result := opAluR .cp .h s
def execCpL (s : State) : Result := opAluR .cp .l s
def execCpA (s : State) : Result := opAluR .cp .a s
-- R182
def execCpAtHl (s : State) : Result := opAluAtHl .cp s
-- R183
def execCpD8 (n : Byte) (s : State) : Result := opAluD8 .cp n s
-- R184
def execIncB (s : State) : Result := opIncR .b s
def execIncC (s : State) : Result := opIncR .c s
def execIncD (s : State) : Result := opIncR .d s
def execIncE (s : State) : Result := opIncR .e s
def execIncH (s : State) : Result := opIncR .h s
def execIncL (s : State) : Result := opIncR .l s
def execIncA (s : State) : Result := opIncR .a s
-- R185
def execIncAtHl (s : State) : Result := opIncAtHl s
-- R186
def execDecB (s : State) : Result := opDecR .b s
def execDecC (s : State) : Result := opDecR .c s
def execDecD (s : State) : Result := opDecR .d s
def execDecE (s : State) : Result := opDecR .e s
def execDecH (s : State) : Result := opDecR .h s
def execDecL (s : State) : Result := opDecR .l s
def execDecA (s : State) : Result := opDecR .a s
-- R187
def execDecAtHl (s : State) : Result := opDecAtHl s
-- R188
def execDaa (s : State) : Result := opDaa s
-- R189
def execCpl (s : State) : Result := opCpl s
-- R190
def execScf (s : State) : Result := opScf s
-- R191
def execCcf (s : State) : Result := opCcf s

end Sys2Proof.Machine
end

