-- ==== Sys2Proof/Machine/Control.lean ====
section
/-! DEFINITION. Control transfer (46_control.md R210 to R221). `PC` in these meanings is the address after the instruction
(10_state.md R17). -/

namespace Sys2Proof.Machine

/-- `PC <- target`. -/
def State.jump (s : State) (target : Word) : State := { s with pc := target }

/-- `Push16(PC) ; PC <- target` (R215, R216, R220). -/
def callTo (target : Word) (s : State) : Result := s.push16 s.pc fun s1 => .next (s1.jump target)

/-- `PC <- Pop16()` (R217 to R219). -/
def returnFrom (s : State) : Result := s.pop16 fun w s1 => .next (s1.jump w)

/-- R210. -/
def opJp (nn : Word) (s : State) : Result := .next (s.jump nn)
/-- R211. -/
def opJpCc (cc : Cond) (nn : Word) (s : State) : Result := if s.cond cc then .next (s.jump nn) else .next s
/-- R212: no memory is read. -/
def opJpAtHl (s : State) : Result := .next (s.jump s.hl)
/-- R213. -/
def opJr (e : Byte) (s : State) : Result := .next (s.jump (s.relTarget e))
/-- R214. -/
def opJrCc (cc : Cond) (e : Byte) (s : State) : Result :=
  if s.cond cc then .next (s.jump (s.relTarget e)) else .next s
/-- R215. -/
def opCall (nn : Word) (s : State) : Result := callTo nn s
/-- R216. -/
def opCallCc (cc : Cond) (nn : Word) (s : State) : Result := if s.cond cc then callTo nn s else .next s
/-- R220. -/
def opRst (n : Bit3) (s : State) : Result := callTo (rstTarget n) s
/-- R217. -/
def opRet (s : State) : Result := returnFrom s
/-- R218. -/
def opRetCc (cc : Cond) (s : State) : Result := if s.cond cc then returnFrom s else .next s
/-- R219: no interrupt state exists, so exactly RET. -/
def opReti (s : State) : Result := returnFrom s

/-! ### The meanings, one per instruction -/

-- R210
def execJpA16 (nn : Word) (s : State) : Result := opJp nn s
-- R211
def execJpNzA16 (nn : Word) (s : State) : Result := opJpCc .nz nn s
def execJpZA16 (nn : Word) (s : State) : Result := opJpCc .z nn s
def execJpNcA16 (nn : Word) (s : State) : Result := opJpCc .nc nn s
def execJpCA16 (nn : Word) (s : State) : Result := opJpCc .c nn s
-- R212
def execJpAtHl (s : State) : Result := opJpAtHl s
-- R213
def execJrR8 (e : Byte) (s : State) : Result := opJr e s
-- R214
def execJrNzR8 (e : Byte) (s : State) : Result := opJrCc .nz e s
def execJrZR8 (e : Byte) (s : State) : Result := opJrCc .z e s
def execJrNcR8 (e : Byte) (s : State) : Result := opJrCc .nc e s
def execJrCR8 (e : Byte) (s : State) : Result := opJrCc .c e s
-- R215
def execCallA16 (nn : Word) (s : State) : Result := opCall nn s
-- R216
def execCallNzA16 (nn : Word) (s : State) : Result := opCallCc .nz nn s
def execCallZA16 (nn : Word) (s : State) : Result := opCallCc .z nn s
def execCallNcA16 (nn : Word) (s : State) : Result := opCallCc .nc nn s
def execCallCA16 (nn : Word) (s : State) : Result := opCallCc .c nn s
-- R217
def execRet (s : State) : Result := opRet s
-- R218
def execRetNz (s : State) : Result := opRetCc .nz s
def execRetZ (s : State) : Result := opRetCc .z s
def execRetNc (s : State) : Result := opRetCc .nc s
def execRetC (s : State) : Result := opRetCc .c s
-- R219
def execReti (s : State) : Result := opReti s
-- R220
def execRst00 (s : State) : Result := opRst .b0 s
def execRst08 (s : State) : Result := opRst .b1 s
def execRst10 (s : State) : Result := opRst .b2 s
def execRst18 (s : State) : Result := opRst .b3 s
def execRst20 (s : State) : Result := opRst .b4 s
def execRst28 (s : State) : Result := opRst .b5 s
def execRst30 (s : State) : Result := opRst .b6 s
def execRst38 (s : State) : Result := opRst .b7 s

end Sys2Proof.Machine
end

