-- ==== Sys2Proof/Machine/Load16.lean ====
section
/-! DEFINITION. 16-bit loads and the stack (42_load16.md R150 to R155). -/

namespace Sys2Proof.Machine

/-- R150: `rr[p] <- d16`. -/
def opLdRrD16 (p : RegPair) (nn : Word) (s : State) : Result := .next (s.setPair p nn)

/-- R151: the low byte of SP at a16, then the high byte at a16 + 1. -/
def opLdAtA16Sp (nn : Word) (s : State) : Result :=
  s.withWrite nn (loByte s.sp) fun s1 => s1.withWrite (nn + 1) (hiByte s.sp) .next

/-- R152: `SP <- HL`. -/
def opLdSpHl (s : State) : Result := .next { s with sp := s.hl }

/-- R153: `HL <- ADDSP(SP, r8)`. -/
def opLdHlSpR8 (e : Byte) (s : State) : Result :=
  .next ((s.putFlags (addSp s.sp e)).setHl (addSp s.sp e).val)

/-- R154: `Push16(rr2[p])`. -/
def opPush (p : StackPair) (s : State) : Result := s.push16 (s.getStackPair p) .next

/-- R155: `w <- Pop16() ; rr2[p] <- w`. -/
def opPop (p : StackPair) (s : State) : Result := s.pop16 fun w s1 => .next (s1.setStackPair p w)

/-! ### The meanings, one per instruction -/

-- R150
def execLdBcD16 (nn : Word) (s : State) : Result := opLdRrD16 .bc nn s
def execLdDeD16 (nn : Word) (s : State) : Result := opLdRrD16 .de nn s
def execLdHlD16 (nn : Word) (s : State) : Result := opLdRrD16 .hl nn s
def execLdSpD16 (nn : Word) (s : State) : Result := opLdRrD16 .sp nn s
-- R151
def execLdAtA16Sp (nn : Word) (s : State) : Result := opLdAtA16Sp nn s
-- R152
def execLdSpHl (s : State) : Result := opLdSpHl s
-- R153
def execLdHlSpR8 (e : Byte) (s : State) : Result := opLdHlSpR8 e s
-- R154
def execPushBc (s : State) : Result := opPush .bc s
def execPushDe (s : State) : Result := opPush .de s
def execPushHl (s : State) : Result := opPush .hl s
def execPushAf (s : State) : Result := opPush .af s
-- R155
def execPopBc (s : State) : Result := opPop .bc s
def execPopDe (s : State) : Result := opPop .de s
def execPopHl (s : State) : Result := opPop .hl s
def execPopAf (s : State) : Result := opPop .af s

end Sys2Proof.Machine
end

