-- ==== Sys2Proof/Machine/Load8.lean ====
section
/-! DEFINITION. 8-bit loads and stores (41_load8.md R130 to R148). No instruction here writes `F`. -/

namespace Sys2Proof.Machine

/-- R130: `x[dst] <- x[src]`. -/
def opLdRR (dst src : Reg8) (s : State) : Result := .next (s.setReg dst (s.getReg src))

/-- R131: `x[dst] <- d8`. -/
def opLdRD8 (dst : Reg8) (n : Byte) (s : State) : Result := .next (s.setReg dst n)

/-- R132: `v <- MemRead(HL, 1) ; x[dst] <- v`. -/
def opLdRAtHl (dst : Reg8) (s : State) : Result := s.withRead s.hl fun v => .next (s.setReg dst v)

/-- R133: `MemWrite(HL, 1, x[src])`. -/
def opLdAtHlR (r : Reg8) (s : State) : Result := s.withWrite s.hl (s.getReg r) .next

/-- R134: `MemWrite(HL, 1, d8)`. -/
def opLdAtHlD8 (n : Byte) (s : State) : Result := s.withWrite s.hl n .next

/-- `A <- MemRead(addr, 1)`, the effect of every load of A from memory (R135, R136, R139, R142, R144). -/
def loadA (addr : Word) (s : State) : Result := s.withRead addr fun v => .next { s with a := v }

/-- `MemWrite(addr, 1, A)`, the effect of every store of A (R137, R138, R140, R141, R143). -/
def storeA (addr : Word) (s : State) : Result := s.withWrite addr s.a .next

/-- R135. -/
def opLdAAtBc (s : State) : Result := loadA s.bc s
/-- R136. -/
def opLdAAtDe (s : State) : Result := loadA s.de s
/-- R137. -/
def opLdAtBcA (s : State) : Result := storeA s.bc s
/-- R138. -/
def opLdAtDeA (s : State) : Result := storeA s.de s
/-- R139. -/
def opLdAAtA16 (nn : Word) (s : State) : Result := loadA nn s
/-- R140. -/
def opLdAtA16A (nn : Word) (s : State) : Result := storeA nn s
/-- R141. -/
def opLdhAtA8A (n : Byte) (s : State) : Result := storeA (highPage n) s
/-- R142. -/
def opLdhAAtA8 (n : Byte) (s : State) : Result := loadA (highPage n) s
/-- R143. -/
def opLdAtCA (s : State) : Result := storeA s.highC s
/-- R144. -/
def opLdAAtC (s : State) : Result := loadA s.highC s

/-- `MemWrite(HL, 1, A) ; HL <- next` (R145, R147): on a fault HL is unchanged. -/
def storeAThen (next : Word → Word) (s : State) : Result :=
  s.withWrite s.hl s.a fun s1 => .next (s1.setHl (next s.hl))

/-- `A <- MemRead(HL, 1) ; HL <- next` (R146, R148): on a fault A and HL are unchanged. -/
def loadAThen (next : Word → Word) (s : State) : Result :=
  s.withRead s.hl fun v => .next (({ s with a := v } : State).setHl (next s.hl))

/-- R145. -/
def opLdAtHliA (s : State) : Result := storeAThen inc16 s
/-- R146. -/
def opLdAAtHli (s : State) : Result := loadAThen inc16 s
/-- R147. -/
def opLdAtHldA (s : State) : Result := storeAThen dec16 s
/-- R148. -/
def opLdAAtHld (s : State) : Result := loadAThen dec16 s

/-! ### The meanings, one per instruction -/

-- R130
def execLdBB (s : State) : Result := opLdRR .b .b s
def execLdBC (s : State) : Result := opLdRR .b .c s
def execLdBD (s : State) : Result := opLdRR .b .d s
def execLdBE (s : State) : Result := opLdRR .b .e s
def execLdBH (s : State) : Result := opLdRR .b .h s
def execLdBL (s : State) : Result := opLdRR .b .l s
def execLdBA (s : State) : Result := opLdRR .b .a s
def execLdCB (s : State) : Result := opLdRR .c .b s
def execLdCC (s : State) : Result := opLdRR .c .c s
def execLdCD (s : State) : Result := opLdRR .c .d s
def execLdCE (s : State) : Result := opLdRR .c .e s
def execLdCH (s : State) : Result := opLdRR .c .h s
def execLdCL (s : State) : Result := opLdRR .c .l s
def execLdCA (s : State) : Result := opLdRR .c .a s
def execLdDB (s : State) : Result := opLdRR .d .b s
def execLdDC (s : State) : Result := opLdRR .d .c s
def execLdDD (s : State) : Result := opLdRR .d .d s
def execLdDE (s : State) : Result := opLdRR .d .e s
def execLdDH (s : State) : Result := opLdRR .d .h s
def execLdDL (s : State) : Result := opLdRR .d .l s
def execLdDA (s : State) : Result := opLdRR .d .a s
def execLdEB (s : State) : Result := opLdRR .e .b s
def execLdEC (s : State) : Result := opLdRR .e .c s
def execLdED (s : State) : Result := opLdRR .e .d s
def execLdEE (s : State) : Result := opLdRR .e .e s
def execLdEH (s : State) : Result := opLdRR .e .h s
def execLdEL (s : State) : Result := opLdRR .e .l s
def execLdEA (s : State) : Result := opLdRR .e .a s
def execLdHB (s : State) : Result := opLdRR .h .b s
def execLdHC (s : State) : Result := opLdRR .h .c s
def execLdHD (s : State) : Result := opLdRR .h .d s
def execLdHE (s : State) : Result := opLdRR .h .e s
def execLdHH (s : State) : Result := opLdRR .h .h s
def execLdHL (s : State) : Result := opLdRR .h .l s
def execLdHA (s : State) : Result := opLdRR .h .a s
def execLdLB (s : State) : Result := opLdRR .l .b s
def execLdLC (s : State) : Result := opLdRR .l .c s
def execLdLD (s : State) : Result := opLdRR .l .d s
def execLdLE (s : State) : Result := opLdRR .l .e s
def execLdLH (s : State) : Result := opLdRR .l .h s
def execLdLL (s : State) : Result := opLdRR .l .l s
def execLdLA (s : State) : Result := opLdRR .l .a s
def execLdAB (s : State) : Result := opLdRR .a .b s
def execLdAC (s : State) : Result := opLdRR .a .c s
def execLdAD (s : State) : Result := opLdRR .a .d s
def execLdAE (s : State) : Result := opLdRR .a .e s
def execLdAH (s : State) : Result := opLdRR .a .h s
def execLdAL (s : State) : Result := opLdRR .a .l s
def execLdAA (s : State) : Result := opLdRR .a .a s
-- R131
def execLdBD8 (n : Byte) (s : State) : Result := opLdRD8 .b n s
def execLdCD8 (n : Byte) (s : State) : Result := opLdRD8 .c n s
def execLdDD8 (n : Byte) (s : State) : Result := opLdRD8 .d n s
def execLdED8 (n : Byte) (s : State) : Result := opLdRD8 .e n s
def execLdHD8 (n : Byte) (s : State) : Result := opLdRD8 .h n s
def execLdLD8 (n : Byte) (s : State) : Result := opLdRD8 .l n s
def execLdAD8 (n : Byte) (s : State) : Result := opLdRD8 .a n s
-- R132
def execLdBAtHl (s : State) : Result := opLdRAtHl .b s
def execLdCAtHl (s : State) : Result := opLdRAtHl .c s
def execLdDAtHl (s : State) : Result := opLdRAtHl .d s
def execLdEAtHl (s : State) : Result := opLdRAtHl .e s
def execLdHAtHl (s : State) : Result := opLdRAtHl .h s
def execLdLAtHl (s : State) : Result := opLdRAtHl .l s
def execLdAAtHl (s : State) : Result := opLdRAtHl .a s
-- R133
def execLdAtHlB (s : State) : Result := opLdAtHlR .b s
def execLdAtHlC (s : State) : Result := opLdAtHlR .c s
def execLdAtHlD (s : State) : Result := opLdAtHlR .d s
def execLdAtHlE (s : State) : Result := opLdAtHlR .e s
def execLdAtHlH (s : State) : Result := opLdAtHlR .h s
def execLdAtHlL (s : State) : Result := opLdAtHlR .l s
def execLdAtHlA (s : State) : Result := opLdAtHlR .a s
-- R134
def execLdAtHlD8 (n : Byte) (s : State) : Result := opLdAtHlD8 n s
-- R135
def execLdAAtBc (s : State) : Result := opLdAAtBc s
-- R136
def execLdAAtDe (s : State) : Result := opLdAAtDe s
-- R137
def execLdAtBcA (s : State) : Result := opLdAtBcA s
-- R138
def execLdAtDeA (s : State) : Result := opLdAtDeA s
-- R139
def execLdAAtA16 (nn : Word) (s : State) : Result := opLdAAtA16 nn s
-- R140
def execLdAtA16A (nn : Word) (s : State) : Result := opLdAtA16A nn s
-- R141
def execLdhAtA8A (n : Byte) (s : State) : Result := opLdhAtA8A n s
-- R142
def execLdhAAtA8 (n : Byte) (s : State) : Result := opLdhAAtA8 n s
-- R143
def execLdAtCA (s : State) : Result := opLdAtCA s
-- R144
def execLdAAtC (s : State) : Result := opLdAAtC s
-- R145
def execLdAtHliA (s : State) : Result := opLdAtHliA s
-- R146
def execLdAAtHli (s : State) : Result := opLdAAtHli s
-- R147
def execLdAtHldA (s : State) : Result := opLdAtHldA s
-- R148
def execLdAAtHld (s : State) : Result := opLdAAtHld s

end Sys2Proof.Machine
end

