-- ==== Sys2Proof/Machine/Prefixed.lean ====
section
/-! DEFINITION. The secondary-prefixed instructions (48_cb_prefixed.md R235 to R257). In the `(HL)` forms that write, the flags are set
after the write (R235). -/

namespace Sys2Proof.Machine

/-- Rotate, shift or SWAP a register: R236, R238, R240, R242, R244, R246, R248, R250. -/
def opRotR (op : RotOp) (r : Reg8) (s : State) : Result :=
  .next ((s.setReg r (rot8 op (s.getReg r) s.cf).val).putFlags (rot8 op (s.getReg r) s.cf))

/-- Rotate, shift or SWAP the byte at HL: R237, R239, R241, R243, R245, R247, R249, R251. -/
def opRotAtHl (op : RotOp) (s : State) : Result :=
  s.withRead s.hl fun v =>
    s.withWrite s.hl (rot8 op v s.cf).val fun s1 => .next (s1.putFlags (rot8 op v s.cf))

/-- R252. -/
def opBitR (b : Bit3) (r : Reg8) (s : State) : Result := .next (s.putFlags (bitTest b.val (s.getReg r) s.cf))

/-- R253. -/
def opBitAtHl (b : Bit3) (s : State) : Result :=
  s.withRead s.hl fun v => .next (s.putFlags (bitTest b.val v s.cf))

/-- R254. -/
def opResR (b : Bit3) (r : Reg8) (s : State) : Result := .next (s.setReg r (resBit b.val (s.getReg r)))

/-- R255. -/
def opResAtHl (b : Bit3) (s : State) : Result :=
  s.withRead s.hl fun v => s.withWrite s.hl (resBit b.val v) .next

/-- R256. -/
def opSetR (b : Bit3) (r : Reg8) (s : State) : Result := .next (s.setReg r (setBit b.val (s.getReg r)))

/-- R257. -/
def opSetAtHl (b : Bit3) (s : State) : Result :=
  s.withRead s.hl fun v => s.withWrite s.hl (setBit b.val v) .next

/-! ### The meanings, one per instruction -/

-- R236
def execRlcB (s : State) : Result := opRotR .rlc .b s
def execRlcC (s : State) : Result := opRotR .rlc .c s
def execRlcD (s : State) : Result := opRotR .rlc .d s
def execRlcE (s : State) : Result := opRotR .rlc .e s
def execRlcH (s : State) : Result := opRotR .rlc .h s
def execRlcL (s : State) : Result := opRotR .rlc .l s
def execRlcA (s : State) : Result := opRotR .rlc .a s
-- R237
def execRlcAtHl (s : State) : Result := opRotAtHl .rlc s
-- R238
def execRrcB (s : State) : Result := opRotR .rrc .b s
def execRrcC (s : State) : Result := opRotR .rrc .c s
def execRrcD (s : State) : Result := opRotR .rrc .d s
def execRrcE (s : State) : Result := opRotR .rrc .e s
def execRrcH (s : State) : Result := opRotR .rrc .h s
def execRrcL (s : State) : Result := opRotR .rrc .l s
def execRrcA (s : State) : Result := opRotR .rrc .a s
-- R239
def execRrcAtHl (s : State) : Result := opRotAtHl .rrc s
-- R240
def execRlB (s : State) : Result := opRotR .rl .b s
def execRlC (s : State) : Result := opRotR .rl .c s
def execRlD (s : State) : Result := opRotR .rl .d s
def execRlE (s : State) : Result := opRotR .rl .e s
def execRlH (s : State) : Result := opRotR .rl .h s
def execRlL (s : State) : Result := opRotR .rl .l s
def execRlA (s : State) : Result := opRotR .rl .a s
-- R241
def execRlAtHl (s : State) : Result := opRotAtHl .rl s
-- R242
def execRrB (s : State) : Result := opRotR .rr .b s
def execRrC (s : State) : Result := opRotR .rr .c s
def execRrD (s : State) : Result := opRotR .rr .d s
def execRrE (s : State) : Result := opRotR .rr .e s
def execRrH (s : State) : Result := opRotR .rr .h s
def execRrL (s : State) : Result := opRotR .rr .l s
def execRrA (s : State) : Result := opRotR .rr .a s
-- R243
def execRrAtHl (s : State) : Result := opRotAtHl .rr s
-- R244
def execSlaB (s : State) : Result := opRotR .sla .b s
def execSlaC (s : State) : Result := opRotR .sla .c s
def execSlaD (s : State) : Result := opRotR .sla .d s
def execSlaE (s : State) : Result := opRotR .sla .e s
def execSlaH (s : State) : Result := opRotR .sla .h s
def execSlaL (s : State) : Result := opRotR .sla .l s
def execSlaA (s : State) : Result := opRotR .sla .a s
-- R245
def execSlaAtHl (s : State) : Result := opRotAtHl .sla s
-- R246
def execSraB (s : State) : Result := opRotR .sra .b s
def execSraC (s : State) : Result := opRotR .sra .c s
def execSraD (s : State) : Result := opRotR .sra .d s
def execSraE (s : State) : Result := opRotR .sra .e s
def execSraH (s : State) : Result := opRotR .sra .h s
def execSraL (s : State) : Result := opRotR .sra .l s
def execSraA (s : State) : Result := opRotR .sra .a s
-- R247
def execSraAtHl (s : State) : Result := opRotAtHl .sra s
-- R248
def execSwapB (s : State) : Result := opRotR .swap .b s
def execSwapC (s : State) : Result := opRotR .swap .c s
def execSwapD (s : State) : Result := opRotR .swap .d s
def execSwapE (s : State) : Result := opRotR .swap .e s
def execSwapH (s : State) : Result := opRotR .swap .h s
def execSwapL (s : State) : Result := opRotR .swap .l s
def execSwapA (s : State) : Result := opRotR .swap .a s
-- R249
def execSwapAtHl (s : State) : Result := opRotAtHl .swap s
-- R250
def execSrlB (s : State) : Result := opRotR .srl .b s
def execSrlC (s : State) : Result := opRotR .srl .c s
def execSrlD (s : State) : Result := opRotR .srl .d s
def execSrlE (s : State) : Result := opRotR .srl .e s
def execSrlH (s : State) : Result := opRotR .srl .h s
def execSrlL (s : State) : Result := opRotR .srl .l s
def execSrlA (s : State) : Result := opRotR .srl .a s
-- R251
def execSrlAtHl (s : State) : Result := opRotAtHl .srl s
-- R252
def execBit0B (s : State) : Result := opBitR .b0 .b s
def execBit0C (s : State) : Result := opBitR .b0 .c s
def execBit0D (s : State) : Result := opBitR .b0 .d s
def execBit0E (s : State) : Result := opBitR .b0 .e s
def execBit0H (s : State) : Result := opBitR .b0 .h s
def execBit0L (s : State) : Result := opBitR .b0 .l s
def execBit0A (s : State) : Result := opBitR .b0 .a s
def execBit1B (s : State) : Result := opBitR .b1 .b s
def execBit1C (s : State) : Result := opBitR .b1 .c s
def execBit1D (s : State) : Result := opBitR .b1 .d s
def execBit1E (s : State) : Result := opBitR .b1 .e s
def execBit1H (s : State) : Result := opBitR .b1 .h s
def execBit1L (s : State) : Result := opBitR .b1 .l s
def execBit1A (s : State) : Result := opBitR .b1 .a s
def execBit2B (s : State) : Result := opBitR .b2 .b s
def execBit2C (s : State) : Result := opBitR .b2 .c s
def execBit2D (s : State) : Result := opBitR .b2 .d s
def execBit2E (s : State) : Result := opBitR .b2 .e s
def execBit2H (s : State) : Result := opBitR .b2 .h s
def execBit2L (s : State) : Result := opBitR .b2 .l s
def execBit2A (s : State) : Result := opBitR .b2 .a s
def execBit3B (s : State) : Result := opBitR .b3 .b s
def execBit3C (s : State) : Result := opBitR .b3 .c s
def execBit3D (s : State) : Result := opBitR .b3 .d s
def execBit3E (s : State) : Result := opBitR .b3 .e s
def execBit3H (s : State) : Result := opBitR .b3 .h s
def execBit3L (s : State) : Result := opBitR .b3 .l s
def execBit3A (s : State) : Result := opBitR .b3 .a s
def execBit4B (s : State) : Result := opBitR .b4 .b s
def execBit4C (s : State) : Result := opBitR .b4 .c s
def execBit4D (s : State) : Result := opBitR .b4 .d s
def execBit4E (s : State) : Result := opBitR .b4 .e s
def execBit4H (s : State) : Result := opBitR .b4 .h s
def execBit4L (s : State) : Result := opBitR .b4 .l s
def execBit4A (s : State) : Result := opBitR .b4 .a s
def execBit5B (s : State) : Result := opBitR .b5 .b s
def execBit5C (s : State) : Result := opBitR .b5 .c s
def execBit5D (s : State) : Result := opBitR .b5 .d s
def execBit5E (s : State) : Result := opBitR .b5 .e s
def execBit5H (s : State) : Result := opBitR .b5 .h s
def execBit5L (s : State) : Result := opBitR .b5 .l s
def execBit5A (s : State) : Result := opBitR .b5 .a s
def execBit6B (s : State) : Result := opBitR .b6 .b s
def execBit6C (s : State) : Result := opBitR .b6 .c s
def execBit6D (s : State) : Result := opBitR .b6 .d s
def execBit6E (s : State) : Result := opBitR .b6 .e s
def execBit6H (s : State) : Result := opBitR .b6 .h s
def execBit6L (s : State) : Result := opBitR .b6 .l s
def execBit6A (s : State) : Result := opBitR .b6 .a s
def execBit7B (s : State) : Result := opBitR .b7 .b s
def execBit7C (s : State) : Result := opBitR .b7 .c s
def execBit7D (s : State) : Result := opBitR .b7 .d s
def execBit7E (s : State) : Result := opBitR .b7 .e s
def execBit7H (s : State) : Result := opBitR .b7 .h s
def execBit7L (s : State) : Result := opBitR .b7 .l s
def execBit7A (s : State) : Result := opBitR .b7 .a s
-- R253
def execBit0AtHl (s : State) : Result := opBitAtHl .b0 s
def execBit1AtHl (s : State) : Result := opBitAtHl .b1 s
def execBit2AtHl (s : State) : Result := opBitAtHl .b2 s
def execBit3AtHl (s : State) : Result := opBitAtHl .b3 s
def execBit4AtHl (s : State) : Result := opBitAtHl .b4 s
def execBit5AtHl (s : State) : Result := opBitAtHl .b5 s
def execBit6AtHl (s : State) : Result := opBitAtHl .b6 s
def execBit7AtHl (s : State) : Result := opBitAtHl .b7 s
-- R254
def execRes0B (s : State) : Result := opResR .b0 .b s
def execRes0C (s : State) : Result := opResR .b0 .c s
def execRes0D (s : State) : Result := opResR .b0 .d s
def execRes0E (s : State) : Result := opResR .b0 .e s
def execRes0H (s : State) : Result := opResR .b0 .h s
def execRes0L (s : State) : Result := opResR .b0 .l s
def execRes0A (s : State) : Result := opResR .b0 .a s
def execRes1B (s : State) : Result := opResR .b1 .b s
def execRes1C (s : State) : Result := opResR .b1 .c s
def execRes1D (s : State) : Result := opResR .b1 .d s
def execRes1E (s : State) : Result := opResR .b1 .e s
def execRes1H (s : State) : Result := opResR .b1 .h s
def execRes1L (s : State) : Result := opResR .b1 .l s
def execRes1A (s : State) : Result := opResR .b1 .a s
def execRes2B (s : State) : Result := opResR .b2 .b s
def execRes2C (s : State) : Result := opResR .b2 .c s
def execRes2D (s : State) : Result := opResR .b2 .d s
def execRes2E (s : State) : Result := opResR .b2 .e s
def execRes2H (s : State) : Result := opResR .b2 .h s
def execRes2L (s : State) : Result := opResR .b2 .l s
def execRes2A (s : State) : Result := opResR .b2 .a s
def execRes3B (s : State) : Result := opResR .b3 .b s
def execRes3C (s : State) : Result := opResR .b3 .c s
def execRes3D (s : State) : Result := opResR .b3 .d s
def execRes3E (s : State) : Result := opResR .b3 .e s
def execRes3H (s : State) : Result := opResR .b3 .h s
def execRes3L (s : State) : Result := opResR .b3 .l s
def execRes3A (s : State) : Result := opResR .b3 .a s
def execRes4B (s : State) : Result := opResR .b4 .b s
def execRes4C (s : State) : Result := opResR .b4 .c s
def execRes4D (s : State) : Result := opResR .b4 .d s
def execRes4E (s : State) : Result := opResR .b4 .e s
def execRes4H (s : State) : Result := opResR .b4 .h s
def execRes4L (s : State) : Result := opResR .b4 .l s
def execRes4A (s : State) : Result := opResR .b4 .a s
def execRes5B (s : State) : Result := opResR .b5 .b s
def execRes5C (s : State) : Result := opResR .b5 .c s
def execRes5D (s : State) : Result := opResR .b5 .d s
def execRes5E (s : State) : Result := opResR .b5 .e s
def execRes5H (s : State) : Result := opResR .b5 .h s
def execRes5L (s : State) : Result := opResR .b5 .l s
def execRes5A (s : State) : Result := opResR .b5 .a s
def execRes6B (s : State) : Result := opResR .b6 .b s
def execRes6C (s : State) : Result := opResR .b6 .c s
def execRes6D (s : State) : Result := opResR .b6 .d s
def execRes6E (s : State) : Result := opResR .b6 .e s
def execRes6H (s : State) : Result := opResR .b6 .h s
def execRes6L (s : State) : Result := opResR .b6 .l s
def execRes6A (s : State) : Result := opResR .b6 .a s
def execRes7B (s : State) : Result := opResR .b7 .b s
def execRes7C (s : State) : Result := opResR .b7 .c s
def execRes7D (s : State) : Result := opResR .b7 .d s
def execRes7E (s : State) : Result := opResR .b7 .e s
def execRes7H (s : State) : Result := opResR .b7 .h s
def execRes7L (s : State) : Result := opResR .b7 .l s
def execRes7A (s : State) : Result := opResR .b7 .a s
-- R255
def execRes0AtHl (s : State) : Result := opResAtHl .b0 s
def execRes1AtHl (s : State) : Result := opResAtHl .b1 s
def execRes2AtHl (s : State) : Result := opResAtHl .b2 s
def execRes3AtHl (s : State) : Result := opResAtHl .b3 s
def execRes4AtHl (s : State) : Result := opResAtHl .b4 s
def execRes5AtHl (s : State) : Result := opResAtHl .b5 s
def execRes6AtHl (s : State) : Result := opResAtHl .b6 s
def execRes7AtHl (s : State) : Result := opResAtHl .b7 s
-- R256
def execSet0B (s : State) : Result := opSetR .b0 .b s
def execSet0C (s : State) : Result := opSetR .b0 .c s
def execSet0D (s : State) : Result := opSetR .b0 .d s
def execSet0E (s : State) : Result := opSetR .b0 .e s
def execSet0H (s : State) : Result := opSetR .b0 .h s
def execSet0L (s : State) : Result := opSetR .b0 .l s
def execSet0A (s : State) : Result := opSetR .b0 .a s
def execSet1B (s : State) : Result := opSetR .b1 .b s
def execSet1C (s : State) : Result := opSetR .b1 .c s
def execSet1D (s : State) : Result := opSetR .b1 .d s
def execSet1E (s : State) : Result := opSetR .b1 .e s
def execSet1H (s : State) : Result := opSetR .b1 .h s
def execSet1L (s : State) : Result := opSetR .b1 .l s
def execSet1A (s : State) : Result := opSetR .b1 .a s
def execSet2B (s : State) : Result := opSetR .b2 .b s
def execSet2C (s : State) : Result := opSetR .b2 .c s
def execSet2D (s : State) : Result := opSetR .b2 .d s
def execSet2E (s : State) : Result := opSetR .b2 .e s
def execSet2H (s : State) : Result := opSetR .b2 .h s
def execSet2L (s : State) : Result := opSetR .b2 .l s
def execSet2A (s : State) : Result := opSetR .b2 .a s
def execSet3B (s : State) : Result := opSetR .b3 .b s
def execSet3C (s : State) : Result := opSetR .b3 .c s
def execSet3D (s : State) : Result := opSetR .b3 .d s
def execSet3E (s : State) : Result := opSetR .b3 .e s
def execSet3H (s : State) : Result := opSetR .b3 .h s
def execSet3L (s : State) : Result := opSetR .b3 .l s
def execSet3A (s : State) : Result := opSetR .b3 .a s
def execSet4B (s : State) : Result := opSetR .b4 .b s
def execSet4C (s : State) : Result := opSetR .b4 .c s
def execSet4D (s : State) : Result := opSetR .b4 .d s
def execSet4E (s : State) : Result := opSetR .b4 .e s
def execSet4H (s : State) : Result := opSetR .b4 .h s
def execSet4L (s : State) : Result := opSetR .b4 .l s
def execSet4A (s : State) : Result := opSetR .b4 .a s
def execSet5B (s : State) : Result := opSetR .b5 .b s
def execSet5C (s : State) : Result := opSetR .b5 .c s
def execSet5D (s : State) : Result := opSetR .b5 .d s
def execSet5E (s : State) : Result := opSetR .b5 .e s
def execSet5H (s : State) : Result := opSetR .b5 .h s
def execSet5L (s : State) : Result := opSetR .b5 .l s
def execSet5A (s : State) : Result := opSetR .b5 .a s
def execSet6B (s : State) : Result := opSetR .b6 .b s
def execSet6C (s : State) : Result := opSetR .b6 .c s
def execSet6D (s : State) : Result := opSetR .b6 .d s
def execSet6E (s : State) : Result := opSetR .b6 .e s
def execSet6H (s : State) : Result := opSetR .b6 .h s
def execSet6L (s : State) : Result := opSetR .b6 .l s
def execSet6A (s : State) : Result := opSetR .b6 .a s
def execSet7B (s : State) : Result := opSetR .b7 .b s
def execSet7C (s : State) : Result := opSetR .b7 .c s
def execSet7D (s : State) : Result := opSetR .b7 .d s
def execSet7E (s : State) : Result := opSetR .b7 .e s
def execSet7H (s : State) : Result := opSetR .b7 .h s
def execSet7L (s : State) : Result := opSetR .b7 .l s
def execSet7A (s : State) : Result := opSetR .b7 .a s
-- R257
def execSet0AtHl (s : State) : Result := opSetAtHl .b0 s
def execSet1AtHl (s : State) : Result := opSetAtHl .b1 s
def execSet2AtHl (s : State) : Result := opSetAtHl .b2 s
def execSet3AtHl (s : State) : Result := opSetAtHl .b3 s
def execSet4AtHl (s : State) : Result := opSetAtHl .b4 s
def execSet5AtHl (s : State) : Result := opSetAtHl .b5 s
def execSet6AtHl (s : State) : Result := opSetAtHl .b6 s
def execSet7AtHl (s : State) : Result := opSetAtHl .b7 s

end Sys2Proof.Machine
end

