-- ==== Sys2Proof/Machine/RotateA.lean ====
section
/-! DEFINITION. Rotates of the accumulator (45_rotate_a.md R205 to R208): Z always cleared. -/

namespace Sys2Proof.Machine

/-- Rotate A, clearing Z, N and H (45_rotate_a.md). -/
def rotateA (op : RotOp) (s : State) : Result :=
  .next { s.putFlags (rotA8 op s.a s.cf) with a := (rotA8 op s.a s.cf).val }

/-- R205. -/
def opRlca (s : State) : Result := rotateA .rlc s
/-- R206. -/
def opRrca (s : State) : Result := rotateA .rrc s
/-- R207. -/
def opRla (s : State) : Result := rotateA .rl s
/-- R208. -/
def opRra (s : State) : Result := rotateA .rr s

/-! ### The meanings, one per instruction -/

-- R205
def execRlca (s : State) : Result := opRlca s
-- R206
def execRrca (s : State) : Result := opRrca s
-- R207
def execRla (s : State) : Result := opRla s
-- R208
def execRra (s : State) : Result := opRra s

end Sys2Proof.Machine
end

