-- ==== Sys2Proof/Machine/System.lean ====
section
/-! DEFINITION. System instructions, the prefix byte and the undefined opcodes (47_system.md R225 to R231). -/

namespace Sys2Proof.Machine

/-- R225: nothing. -/
def opNop (s : State) : Result := .next s
/-- R226: nothing; the second byte is captured and not used. -/
def opStop (_ignored : Byte) (s : State) : Result := .next s
/-- R227: nothing. -/
def opHalt (s : State) : Result := .next s
/-- R228: nothing. -/
def opDi (s : State) : Result := .next s
/-- R229: nothing. -/
def opEi (s : State) : Result := .next s

/-- R230: the dispatch of the bare prefix byte leaves `cur = {opcode 0xCB, fetch 1, cycle 1}` in state Fetching. -/
def opPrefixCb (s : State) : Result :=
  .next { s with cur := some { opcode := 0xCB, params := [], fetch := 1, cycle := 1, complete := false } }

/-- R231: `cur.valid <- 0 ; raise NotImplemented(opcode)`. -/
def opUndef (op : Byte) (s : State) : Result :=
  ({ s with cur := none } : State).raiseFault { kind := .notImplemented, info := op.toNat }

/-! ### The meanings, one per instruction -/

-- R225
def execNop (s : State) : Result := opNop s
-- R226
def execStop (n : Byte) (s : State) : Result := opStop n s
-- R227
def execHalt (s : State) : Result := opHalt s
-- R228
def execDi (s : State) : Result := opDi s
-- R229
def execEi (s : State) : Result := opEi s
-- R230
def execPrefixCb (s : State) : Result := opPrefixCb s
-- R231
def execUndefD3 (s : State) : Result := opUndef 0xD3 s
def execUndefDB (s : State) : Result := opUndef 0xDB s
def execUndefDD (s : State) : Result := opUndef 0xDD s
def execUndefE3 (s : State) : Result := opUndef 0xE3 s
def execUndefE4 (s : State) : Result := opUndef 0xE4 s
def execUndefEB (s : State) : Result := opUndef 0xEB s
def execUndefEC (s : State) : Result := opUndef 0xEC s
def execUndefED (s : State) : Result := opUndef 0xED s
def execUndefF4 (s : State) : Result := opUndef 0xF4 s
def execUndefFC (s : State) : Result := opUndef 0xFC s
def execUndefFD (s : State) : Result := opUndef 0xFD s

end Sys2Proof.Machine
end

