-- ==== Sys2Proof/Machine/Fetch.lean ====
section
/-! DEFINITION. Records and the instruction-level view (40_engine_and_alu_primitives.md R109): fetch the bytes of one instruction,
apply its meaning, record its completion. The step protocol it summarises is Machine/Engine.lean. -/

namespace Sys2Proof.Machine

/-- The bytes a record has captured, in fetch order. -/
def InstrRecord.bytes (r : InstrRecord) : List Byte := r.opcode :: r.params

/-- `cur.desc` (10_state.md R22). -/
def InstrRecord.desc (r : InstrRecord) : Option Desc := descOf r.bytes

/-- Both counters are at their budgets (40_engine_and_alu_primitives.md R102). -/
def InstrRecord.atBudget (r : InstrRecord) : Bool :=
  match r.desc with
  | some d => r.fetch == d.length && r.cycle == d.cycles
  | none => false

/-- The record in flight: a record that exists and is not complete (10_state.md R23). -/
def State.inFlight (s : State) : Option InstrRecord :=
  match s.cur with
  | some r => if r.complete then none else some r
  | none => none

/-- The breakpoint test (40_engine_and_alu_primitives.md R110). -/
def State.breakHit (s : State) : Bool := s.bpEn && s.pc == s.bpAddr

/-- A cartridge is loaded (70_reset_and_hazards.md R290). -/
def State.hasCartridge (s : State) : Bool := s.image.size != 0

/-- The record of an instruction in progress with the given counters. -/
def State.record (s : State) (op : Byte) (params : List Byte) (fetch cycle : Nat) : State :=
  { s with cur := some { opcode := op, params, fetch, cycle, complete := false } }

/-- Completion: `cur.complete <- 1 ; last <- cur` (40_engine_and_alu_primitives.md R102, R105), unless the instruction raised a fault
(R111). -/
def State.finish (s : State) : State :=
  match s.fault, s.cur with
  | none, some r => { s with cur := some { r with complete := true }, last := some { r with complete := true } }
  | none, none => s
  | some _, _ => s

/-- Apply an instruction whose bytes are all fetched, with both counters at their budgets, and record its completion. -/
def runInstr (i : Instr) (d : Desc) (op : Byte) (params : List Byte) (s : State) : Result :=
  match exec i (s.record op params d.length d.cycles) with
  | .next s' => .next s'.finish
  | .fault r => .fault r
  | .refused r => .refused r

/-- Fetch a byte and go on with it and the state after, or raise the fault. -/
def State.withFetch (s : State) (k : Byte → State → Result) : Result :=
  match s.fetchByte with
  | .ok (v, s') => k v s'
  | .error r => s.raiseFault r

/-- Begin an instruction and run it to its boundary: the opcode byte, the parameter bytes its table entry asks for, its meaning. A
fetch that faults leaves the record of the bytes taken before it (40_engine_and_alu_primitives.md R111). -/
def runFetched (op : Byte) (s : State) : Result :=
  match primary op with
  | .hole i => exec i s
  | .bare =>
    (s.record op [] 1 1).withFetch fun b s1 =>
      match (secondary b).handler with
      | .plain i => runInstr i (secondary b) op [b] s1
      | .withByte _ => .refused .brokenRecord
      | .withWord _ => .refused .brokenRecord
  | .ins d =>
    match d.handler with
    | .plain i => runInstr i d op [] s
    | .withByte mk =>
      (s.record op [] 1 1).withFetch fun p0 s1 => runInstr (mk p0) d op [p0] s1
    | .withWord mk =>
      (s.record op [] 1 1).withFetch fun p0 s1 =>
        (s1.record op [p0] 2 (min 2 d.cycles)).withFetch fun p1 s2 =>
          runInstr (mk (joinBytes p1 p0)) d op [p0, p1] s2

/-- Fetch and run the instruction at `PC`. -/
def runNext (s : State) : Result := s.withFetch runFetched

/-- Store a byte where a fetch from the address reads it: a RAM cell, or the byte of the image that the selected bank maps there. For
placing an instruction from outside (`State.withFetchWord`); no instruction does this. -/
def State.place (s : State) (addr : Word) (v : Byte) : State :=
  if Config.ramBase ≤ addr.toNat then { s with ram := Cells.write s.ram addr.toNat v }
  else
    let off := if addr.toNat < Config.bankSize then addr.toNat
      else s.romBank.toNat * Config.bankSize + (addr.toNat - Config.bankSize)
    { s with image := { size := max s.image.size (off + 1), cells := Cells.write s.image.cells off v } }

/-- Store bytes at an address and after it, modulo 2^16. -/
def State.placeAll (s : State) (addr : Word) : List Byte → State
  | [] => s
  | v :: vs => (s.place addr v).placeAll (addr + 1) vs

end Sys2Proof.Machine
end

