-- ==== Sys2Proof/Machine/Engine.lean ====
section
/-! DEFINITION. The step protocol (40_engine_and_alu_primitives.md R102 to R107, R110, R111): one host `Step` is at most one fetch and
one cycle unit. -/

namespace Sys2Proof.Machine

/-- What a `Step` returns (R102, 60_exceptions.md R281). -/
inductive StepResult where
  | complete
  | fetching
  | brk
  | faulted
  deriving DecidableEq, Repr

/-- The outcome of one host `Step`: its result and the state after it; `.fault` when the latch was set before (R263). -/
abbrev EngineResult := Host.Outcome (StepResult × State) Fault Refusal

/-- A fault raised inside a step: the latch is set, the step returns Faulted (R111, 60_exceptions.md R262). -/
def State.faulted (s : State) (r : FaultRecord) : EngineResult := .next (.faulted, { s with fault := some r })

/-- `Execute(cur)` and completion (R105): the instruction of the captured bytes, applied once. -/
def executeRecord (r : InstrRecord) (s : State) : EngineResult :=
  match decode r.bytes with
  | .error _ => .refused .brokenRecord
  | .ok (i, _) =>
    match exec i s with
    | .fault q => .fault q
    | .refused q => .refused q
    | .next s' =>
      match s'.fault with
      | some _ => .next (.faulted, s')
      | none => .next (.complete, s'.finish)

/-- Line 3 of R102: complete if both counters are at their budgets, else Fetching. -/
def settleRecord (r : InstrRecord) (s : State) : EngineResult :=
  if r.atBudget then executeRecord r s else .next (.fetching, s)

/-- `Dispatch` with the opcode byte taken (R103). -/
def dispatchOpcode (op : Byte) (s : State) : EngineResult :=
  match primary op with
  | .hole i =>
    match exec i s with
    | .next s' => .next (.faulted, s')
    | .fault q => .fault q
    | .refused q => .refused q
  | .bare =>
    match exec .prefixCb s with
    | .next s' => .next (.fetching, s')
    | .fault q => .fault q
    | .refused q => .refused q
  | .ins _ =>
    let r : InstrRecord := { opcode := op, params := [], fetch := 1, cycle := 1, complete := false }
    settleRecord r { s with cur := some r }

/-- `Dispatch(op_in)`: the injected byte if there is one (R107), else a fetched one. -/
def dispatchStep (inj : Option Byte) (s : State) : EngineResult :=
  match inj with
  | some op => dispatchOpcode op s
  | none =>
    match s.fetchByte with
    | .ok (op, s1) => dispatchOpcode op s1
    | .error q => s.faulted q

/-- `Continue()` for a record in flight (R103 after the prefix, else R104), then line 3 of R102. -/
def continueStep (r : InstrRecord) (s : State) : EngineResult :=
  match r.desc with
  | none =>
    match s.fetchByte with
    | .error q => s.faulted q
    | .ok (b, s1) =>
      let r1 : InstrRecord := { r with params := [b], fetch := 2, cycle := 2 }
      settleRecord r1 { s1 with cur := some r1 }
  | some d =>
    let cyc := if r.cycle < d.cycles then r.cycle + 1 else r.cycle
    if r.fetch < d.length then
      match s.fetchByte with
      | .error q => s.faulted q
      | .ok (b, s1) =>
        let r1 : InstrRecord := { r with params := r.params ++ [b], fetch := r.fetch + 1, cycle := cyc }
        settleRecord r1 { s1 with cur := some r1 }
    else
      let r1 : InstrRecord := { r with cycle := cyc }
      settleRecord r1 { s with cur := some r1 }

/-- One host `Step`, with an injected opcode or without (R102, R107): the latch test, then the breakpoint test, before the dispatch
fetch (60_exceptions.md R272). -/
def engineStep (inj : Option Byte) (s : State) : EngineResult :=
  if s.hasCartridge then
    match s.fault with
    | some r => .fault (.latched r)
    | none =>
      match s.inFlight with
      | some r => continueStep r s
      | none => if s.breakHit then .next (.brk, s) else dispatchStep inj s
  else .refused .noCartridge

/-- At most `n` host `Step`s, stopping at the first that does not return Fetching. -/
def engineRun : Nat → State → Result
  | 0, s => .next s
  | n + 1, s =>
    match engineStep none s with
    | .next (.fetching, s') => engineRun n s'
    | .next (_, s') => .next s'
    | .fault q => .fault q
    | .refused q => .refused q

/-- The most host `Step`s an instruction takes, `max(L, N)` over the tables (R104): CALL's six. -/
def maxSteps : Nat := 6

end Sys2Proof.Machine
end

