-- ==== Sys2Proof/Machine/Step.lean ====
section
/-! DEFINITION. One step of the machine: the host's `Step`s up to the next instruction boundary (40_engine_and_alu_primitives.md R109,
log 1), and the placing of an instruction where that step fetches. -/

namespace Sys2Proof.Machine

/-- One step at instruction granularity. Without a cartridge there is no machine (70_reset_and_hazards.md R290). With the latch set it
is stuck (60_exceptions.md R263). An instruction the host left in flight is finished by further engine steps. At a breakpoint
nothing changes (40_engine_and_alu_primitives.md R110). Else the instruction at `PC` is fetched and run (R109). -/
def step (s : State) : Host.Outcome State Fault Refusal :=
  if s.hasCartridge then
    match s.fault with
    | some r => .fault (.latched r)
    | none =>
      match s.inFlight with
      | some _ => engineRun maxSteps s
      | none => if s.breakHit then .next s else runNext s
  else .refused .noCartridge

/-- The state with nothing in the way of the next fetch: a cartridge, no latched fault, nothing in flight, no breakpoint at `PC`. -/
def State.readyToFetch (s : State) : State :=
  { s with
    image := if s.image.size < Config.minImageSize then Image.blank else s.image,
    fault := none,
    cur := match s.inFlight with | some _ => none | none => s.cur,
    bpEn := s.bpEn && !s.breakHit }

/-- The state with the instruction of a table word stored where `step` fetches its next instruction (log 5). -/
def State.withFetchWord (s : State) (nbits w : Nat) : State :=
  s.readyToFetch.placeAll s.pc (tableBytes nbits w)

end Sys2Proof.Machine
end

