-- ==== Sys2Proof/Machine/Commands.lean ====
section
/-! DEFINITION. The host interface (40_engine_and_alu_primitives.md R100): every command as data, what it returns and the state after
it. A fault of a host bus command or of `Load` is returned and does not set the latch (60_exceptions.md R274). -/

namespace Sys2Proof.Machine

/-- The host commands (R100). Bus addresses are integers, as the host presents them (20_memory.md R56); `load` takes the RAM_INIT
parameter beside the image (log 4). -/
inductive Command where
  | load (image : Image) (ramInit : List Host.Cell)
  | reset
  | step
  | stepInjected (op : Byte)
  | setBreakpoint (en : Bool) (addr : Word)
  | getByte (addr : Int)
  | setByte (addr : Int) (v : Byte)
  | bulkRead (addr : Int) (n : Nat)
  | bulkWrite (addr : Int) (bs : List Byte)
  | queryOpcode (op : Byte)
  | queryCurrent
  | queryLast
  | queryRegisters
  | queryController
  deriving DecidableEq, Repr

/-- What the descriptor query returns (R108): opcode byte, mnemonic, L, N, whether the entry has a handler (30_encoding.md R80, R86). L and
N are none where the table gives null: the prefix byte (R82) and the eleven opcodes without a handler (R89). -/
structure DescView where
  opcode : Byte
  description : String
  length : Option Nat
  cycles : Option Nat
  hasHandler : Bool
  deriving DecidableEq, Repr

/-- The register snapshot (R108): the ten registers and the four flags. -/
structure RegisterView where
  a : Byte
  f : Byte
  b : Byte
  c : Byte
  d : Byte
  e : Byte
  h : Byte
  l : Byte
  sp : Word
  pc : Word
  zero : Bool
  subtract : Bool
  halfCarry : Bool
  carry : Bool
  deriving DecidableEq, Repr

/-- The bank controller's four registers (R108). -/
structure ControllerView where
  ramEnable : Bool
  romBank : BitVec 7
  ramBank : BitVec 2
  mode : BankMode
  deriving DecidableEq, Repr

/-- What a command returns. -/
inductive Response where
  | done
  | stepped (r : StepResult)
  | byte (v : Byte)
  | bytes (vs : List Byte)
  | failed (r : FaultRecord)
  | descriptor (d : DescView)
  | record (r : Option InstrRecord)
  | registers (v : RegisterView)
  | controller (v : ControllerView)
  deriving DecidableEq, Repr

/-- A host address as a bus address, or OutOfRange (20_memory.md R56). The info is the offending address; a negative one has no
unsigned value and is reported as 0 (log 11). -/
def hostAddr (addr : Int) : Except FaultRecord Word :=
  if 0 ≤ addr ∧ addr < Config.spaceSize then .ok (BitVec.ofNat 16 addr.toNat)
  else .error { kind := .outOfRange, info := addr.toNat }

/-- The run check of a bulk access, made once before any byte moves (20_memory.md R57). The info is the first address of the run that
is outside the space (log 11). -/
def hostRun (addr : Int) (n : Nat) : Except FaultRecord Nat :=
  if addr < 0 then .error { kind := .outOfRange, info := 0 }
  else if addr + n ≤ Config.spaceSize then .ok addr.toNat
  else .error { kind := .outOfRange, info := max addr.toNat Config.spaceSize }

/-- The bytes of a run, in ascending order (20_memory.md R57). -/
def State.readRun (s : State) : Nat → Nat → Except FaultRecord (List Byte)
  | _, 0 => .ok []
  | a, n + 1 =>
    match s.readByte (BitVec.ofNat 16 a) with
    | .error r => .error r
    | .ok v =>
      match s.readRun (a + 1) n with
      | .error r => .error r
      | .ok vs => .ok (v :: vs)

/-- Write the bytes of a run in ascending order; a fault of one byte leaves the earlier ones written (20_memory.md R57). -/
def State.writeRun (s : State) : Nat → List Byte → Except FaultRecord Unit × State
  | _, [] => (.ok (), s)
  | a, v :: vs =>
    match s.writeByte (BitVec.ofNat 16 a) v with
    | .error r => (.error r, s)
    | .ok s' => s'.writeRun (a + 1) vs

/-- `getInstructionForOpCode(op)` (R108): the primary table's descriptor, of all 256 entries (30_encoding.md R86). The mnemonics are
the table's (R91, R92); for the entries without a handler the grid of R87 prints PREFIX and undef. -/
def descView (op : Byte) : DescView :=
  match primary op with
  | .ins d => { opcode := op, description := d.description, length := some d.length, cycles := some d.cycles, hasHandler := true }
  | .bare => { opcode := op, description := "PREFIX CB", length := none, cycles := none, hasHandler := false }
  | .hole _ => { opcode := op, description := "(undefined)", length := none, cycles := none, hasHandler := false }

/-- The register snapshot (R108). -/
def State.registerView (s : State) : RegisterView :=
  { a := s.a, f := s.f, b := s.b, c := s.c, d := s.d, e := s.e, h := s.h, l := s.l, sp := s.sp, pc := s.pc,
    zero := s.zf, subtract := s.nf, halfCarry := s.hf, carry := s.cf }

/-- The controller snapshot (R108). -/
def State.controllerView (s : State) : ControllerView :=
  { ramEnable := s.ramEnable, romBank := s.romBank, ramBank := s.ramBank, mode := s.mode }

/-- The answer of a command that can fail, and the state after it. -/
def respond (x : Except FaultRecord Unit × State) : Response × State :=
  match x with
  | (.ok _, s) => (.done, s)
  | (.error r, s) => (.failed r, s)

/-- One host `Step` as a command. -/
def stepCommand (inj : Option Byte) (s : State) : Host.Outcome (Response × State) Fault Refusal :=
  match engineStep inj s with
  | .next (r, s') => .next (.stepped r, s')
  | .fault q => .fault q
  | .refused q => .refused q

/-- What a host command does (R100). `Reset` and `Step` need a loaded cartridge (70_reset_and_hazards.md R290). DESIGN CHOICE (log 13):
before a successful `Load` and after a failed one every other command answers from the state the model holds. DESIGN CHOICE (log 14):
an OutOfRange that a `GetByte` or `BulkRead` meets inside the address space keeps the bus's `info`, the bank or the image offset. -/
def applyCommand (cmd : Command) (s : State) : Host.Outcome (Response × State) Fault Refusal :=
  match cmd with
  | .load image ramInit => .next (respond (s.load image ramInit))
  | .reset => if s.hasCartridge then .next (.done, s.doReset) else .refused .noCartridge
  | .step => stepCommand none s
  | .stepInjected op => stepCommand (some op) s
  | .setBreakpoint en addr => .next (.done, { s with bpEn := en, bpAddr := addr })
  | .getByte addr =>
    match hostAddr addr with
    | .error r => .next (.failed r, s)
    | .ok w =>
      match s.readByte w with
      | .error r => .next (.failed r, s)
      | .ok v => .next (.byte v, s)
  | .setByte addr v =>
    match hostAddr addr with
    | .error r => .next (.failed r, s)
    | .ok w =>
      match s.writeByte w v with
      | .error r => .next (.failed r, s)
      | .ok s' => .next (.done, s')
  | .bulkRead addr n =>
    match hostRun addr n with
    | .error r => .next (.failed r, s)
    | .ok a =>
      match s.readRun a n with
      | .error r => .next (.failed r, s)
      | .ok vs => .next (.bytes vs, s)
  | .bulkWrite addr bs =>
    match hostRun addr bs.length with
    | .error r => .next (.failed r, s)
    | .ok a => .next (respond (s.writeRun a bs))
  | .queryOpcode op => .next (.descriptor (descView op), s)
  | .queryCurrent => .next (.record s.cur, s)
  | .queryLast => .next (.record s.last, s)
  | .queryRegisters => .next (.registers s.registerView, s)
  | .queryController => .next (.controller s.controllerView, s)

end Sys2Proof.Machine
end

