-- ==== Sys2Proof/WellFormed.lean ====
section
/-! DEFINITION. Which terms of `Instr` are instructions of the block. Operand ranges need no check: fields are types of their own
width. -/

namespace Sys2Proof

/-- The bare secondary-prefix byte is never itself a standalone instruction (30_encoding.md R82, 47_system.md R230). -/
def Instr.isBarePrefix (i : Instr) : Bool := i.form == .prefixCb

/-- The eleven base opcodes without a handler (30_encoding.md R89): they decode and their dispatch raises a fault. -/
def Instr.isHole (i : Instr) : Bool :=
  match i.form with
  | .undef _ => true
  | _ => false

/-- Well-formed: what the decoder reads from memory, every row of the table but the bare prefix. -/
def Instr.WellFormed (i : Instr) : Bool := !i.isBarePrefix

/-- Well-formed with a handler: an instruction that can complete (30_encoding.md R89). -/
def Instr.HasHandler (i : Instr) : Bool := !i.isBarePrefix && !i.isHole

end Sys2Proof
end

