-- ==== Sys2Proof/Safety.lean ====
section
/-! DEFINITION. The terms claims are stated in: a safe run, when a bus access succeeds, what each operand form may write, and the
invariant of the reachable states. -/

namespace Sys2Proof.Machine

/-! ### Runs -/

/-- The machine begins an instruction at the next step: a cartridge, no latched fault, nothing in flight, no breakpoint hit
(40_engine_and_alu_primitives.md R109). -/
def State.ready (s : State) : Bool :=
  s.hasCartridge && s.fault.isNone && s.inFlight.isNone && !s.breakHit

/-- `n` steps. -/
def runSteps : Nat → State → Result
  | 0, s => .next s
  | n + 1, s =>
    match step s with
    | .next s' => runSteps n s'
    | .fault q => .fault q
    | .refused q => .refused q

/-- A safe run: `n` steps happen and no fault is latched after them (60_exceptions.md R260: a fault is a stuck state). -/
def SafeRun (n : Nat) (s : State) : Prop := ∃ t, runSteps n s = .next t ∧ t.fault = none

/-! ### When a bus access succeeds -/

/-- Reading the address raises no fault (20_memory.md R45 to R47): RAM, or a byte that the image has. -/
def State.readable (s : State) (addr : Word) : Bool :=
  if addr.toNat < Config.bankSize then decide (addr.toNat < s.image.size)
  else if addr.toNat < Config.ramBase then
    decide (s.romBank.toNat * Config.bankSize + (addr.toNat - Config.bankSize) < s.image.size)
  else true

/-- Writing the value raises no fault (20_memory.md R48 to R54). -/
def State.writable (s : State) (addr : Word) (v : Byte) : Bool :=
  decide (Config.ramBase ≤ addr.toNat) ||
    (s.image.banking && (decide (addr.toNat < 0x6000) || decide (v.toNat ≤ 1)))

/-- The bytes of a list stand at an address and after it, modulo 2^16, as fetches read them. -/
def State.holds (s : State) (addr : Word) : List Byte → Prop
  | [] => True
  | b :: bs => s.readByte addr = .ok b ∧ s.holds (addr + 1) bs

/-! ### What an operand form may write -/

/-- The declared length and cycle count of an instruction (30_encoding.md R86). -/
def counts (i : Instr) : Option (Nat × Nat) := i.desc.map fun d => (d.length, d.cycles)

/-- The bytes of an instruction and its declared length and cycle count. -/
def Encodes (i : Instr) (bytes : List Byte) (length cycles : Nat) : Prop :=
  encode i = bytes ∧ counts i = some (length, cycles)

/-- The declared cycle count by form (70_reset_and_hazards.md R312); no entry for the prefix byte and the holes. -/
def formCycles : Form → Option Nat
  | .ldRR _ _ | .aluR _ _ | .incR _ | .decR _ | .rlca | .rrca | .rla | .rra | .daa | .cpl | .scf | .ccf | .nop | .halt | .stop _
  | .di | .ei | .jpAtHl => some 1
  | .ldRD8 _ _ | .ldRAtHl _ | .ldAtHlR _ | .ldAAtBc | .ldAAtDe | .ldAtBcA | .ldAtDeA | .ldAtHliA | .ldAAtHli | .ldAtHldA
  | .ldAAtHld | .ldAtCA | .ldAAtC | .aluAtHl _ | .aluD8 _ _ | .incRr _ | .decRr _ | .addHlRr _ | .ldSpHl | .rotR _ _
  | .bitR _ _ | .resR _ _ | .setR _ _ | .jrCc _ _ | .retCc _ => some 2
  | .ldAtHlD8 _ | .incAtHl | .decAtHl | .ldhAtA8A _ | .ldhAAtA8 _ | .ldRrD16 _ _ | .pop _ | .jr _ | .jpCc _ _ | .callCc _ _
  | .ldHlSpR8 _ | .bitAtHl _ => some 3
  | .ldAAtA16 _ | .ldAtA16A _ | .push _ | .jp _ | .ret | .reti | .rst _ | .addSpR8 _ | .rotAtHl _ | .resAtHl _
  | .setAtHl _ => some 4
  | .ldAtA16Sp _ => some 5
  | .call _ => some 6
  | .prefixCb | .undef _ => none

/-! ### Rotates and shifts as arithmetic -/

/-- The value a rotate or shift by one place leaves, as arithmetic on 0 to 255 (48_cb_prefixed.md R236 to R251). -/
def rotNat (op : RotOp) (v cin : Nat) : Nat :=
  match op with
  | .rlc => (2 * v + v / 128) % 256
  | .rrc => v / 2 + 128 * (v % 2)
  | .rl => (2 * v + cin) % 256
  | .rr => v / 2 + 128 * cin
  | .sla => 2 * v % 256
  | .sra => v / 2 + 128 * (v / 128)
  | .swap => 16 * (v % 16) + v / 16
  | .srl => v / 2

/-- The bit a rotate or shift moves to C (48_cb_prefixed.md R236 to R251). -/
def rotCarry (op : RotOp) (v : Nat) : Bool :=
  match op with
  | .rlc | .rl | .sla => v / 128 == 1
  | .rrc | .rr | .sra | .srl => v % 2 == 1
  | .swap => false

/-- Packed BCD of a number 0 to 99 (43_alu8.md R188). -/
def bcd (n : Nat) : Byte := BitVec.ofNat 8 (16 * (n / 10) + n % 10)

/-! ### What each form may touch -/

/-- The flags of a state are these four, and `F[3:0]` is zero (10_state.md R13, R14). -/
def State.flagsAre (s : State) (z n h c : Bool) : Prop :=
  s.zf = z ∧ s.nf = n ∧ s.hf = h ∧ s.cf = c ∧ s.f &&& 0x0F = 0

/-- The 8-bit registers of a pair; `SP` has none. -/
def pairRegs : RegPair → List Reg8
  | .bc => [.b, .c]
  | .de => [.d, .e]
  | .hl => [.h, .l]
  | .sp => []

/-- The 8-bit registers of a stack pair; `F` is no register of the 3-bit field. -/
def stackPairRegs : StackPair → List Reg8
  | .bc => [.b, .c]
  | .de => [.d, .e]
  | .hl => [.h, .l]
  | .af => [.a]

/-- The 8-bit registers other than `F` that a form may write. -/
def formDests : Form → List Reg8
  | .ldRR dst _ | .ldRD8 dst _ | .ldRAtHl dst => [dst]
  | .ldAAtBc | .ldAAtDe | .ldAAtA16 _ | .ldhAAtA8 _ | .ldAAtC => [.a]
  | .ldAtHliA | .ldAtHldA => [.h, .l]
  | .ldAAtHli | .ldAAtHld => [.a, .h, .l]
  | .ldRrD16 p _ | .incRr p | .decRr p => pairRegs p
  | .ldHlSpR8 _ | .addHlRr _ => [.h, .l]
  | .pop p => stackPairRegs p
  | .aluR op _ | .aluAtHl op | .aluD8 op _ => if op = .cp then [] else [.a]
  | .incR dst | .decR dst => [dst]
  | .daa | .cpl | .rlca | .rrca | .rla | .rra => [.a]
  | .rotR _ r | .resR _ r | .setR _ r => [r]
  | .ldAtHlR _ | .ldAtHlD8 _ | .ldAtBcA | .ldAtDeA | .ldAtA16A _ | .ldhAtA8A _ | .ldAtCA | .ldAtA16Sp _ | .ldSpHl
  | .push _ | .incAtHl | .decAtHl | .scf | .ccf | .addSpR8 _ | .jp _ | .jpCc _ _ | .jpAtHl | .jr _ | .jrCc _ _ | .call _
  | .callCc _ _ | .ret | .retCc _ | .reti | .rst _ | .nop | .stop _ | .halt | .di | .ei | .prefixCb | .undef _
  | .rotAtHl _ | .bitR _ _ | .bitAtHl _ | .resAtHl _ | .setAtHl _ => []

/-- Whether a form may write `SP` (10_state.md R18). -/
def formWritesSp : Form → Bool
  | .ldRrD16 p _ | .incRr p | .decRr p => p == .sp
  | .ldSpHl | .push _ | .pop _ | .addSpR8 _ | .call _ | .callCc _ _ | .ret | .retCc _ | .reti | .rst _ => true
  | .ldRR _ _ | .ldRD8 _ _ | .ldRAtHl _ | .ldAtHlR _ | .ldAtHlD8 _ | .ldAAtBc | .ldAAtDe | .ldAtBcA | .ldAtDeA
  | .ldAAtA16 _ | .ldAtA16A _ | .ldhAtA8A _ | .ldhAAtA8 _ | .ldAtCA | .ldAAtC | .ldAtHliA | .ldAAtHli | .ldAtHldA
  | .ldAAtHld | .ldAtA16Sp _ | .ldHlSpR8 _ | .aluR _ _ | .aluAtHl _ | .aluD8 _ _ | .incR _ | .incAtHl | .decR _
  | .decAtHl | .daa | .cpl | .scf | .ccf | .addHlRr _ | .rlca | .rrca | .rla | .rra | .jp _ | .jpCc _ _ | .jpAtHl | .jr _
  | .jrCc _ _ | .nop | .stop _ | .halt | .di | .ei | .prefixCb | .undef _ | .rotR _ _ | .rotAtHl _ | .bitR _ _ | .bitAtHl _
  | .resR _ _ | .resAtHl _ | .setR _ _ | .setAtHl _ => false

/-- Whether a form is a control transfer, which may write `PC` (10_state.md R17, 46_control.md). -/
def formIsTransfer : Form → Bool
  | .jp _ | .jpCc _ _ | .jpAtHl | .jr _ | .jrCc _ _ | .call _ | .callCc _ _ | .ret | .retCc _ | .reti | .rst _ => true
  | .ldRR _ _ | .ldRD8 _ _ | .ldRAtHl _ | .ldAtHlR _ | .ldAtHlD8 _ | .ldAAtBc | .ldAAtDe | .ldAtBcA | .ldAtDeA
  | .ldAAtA16 _ | .ldAtA16A _ | .ldhAtA8A _ | .ldhAAtA8 _ | .ldAtCA | .ldAAtC | .ldAtHliA | .ldAAtHli | .ldAtHldA
  | .ldAAtHld | .ldRrD16 _ _ | .ldAtA16Sp _ | .ldSpHl | .ldHlSpR8 _ | .push _ | .pop _ | .aluR _ _ | .aluAtHl _ | .aluD8 _ _
  | .incR _ | .incAtHl | .decR _ | .decAtHl | .daa | .cpl | .scf | .ccf | .addHlRr _ | .incRr _ | .decRr _ | .addSpR8 _
  | .rlca | .rrca | .rla | .rra | .nop | .stop _ | .halt | .di | .ei | .prefixCb | .undef _ | .rotR _ _ | .rotAtHl _
  | .bitR _ _ | .bitAtHl _ | .resR _ _ | .resAtHl _ | .setR _ _ | .setAtHl _ => false

/-- The flag bits of `F` a form may write (10_state.md R16): Z 0x80, N 0x40, H 0x20, C 0x10. -/
def formFlagMask : Form → Byte
  | .aluR _ _ | .aluAtHl _ | .aluD8 _ _ | .addHlRr _ | .addSpR8 _ | .ldHlSpR8 _ | .rlca | .rrca | .rla | .rra | .rotR _ _
  | .rotAtHl _ => 0xF0
  | .incR _ | .incAtHl | .decR _ | .decAtHl | .bitR _ _ | .bitAtHl _ => 0xE0
  | .daa => 0xB0
  | .cpl => 0x60
  | .scf | .ccf => 0x70
  | .pop p => if p = .af then 0xF0 else 0x00
  | .ldRR _ _ | .ldRD8 _ _ | .ldRAtHl _ | .ldAtHlR _ | .ldAtHlD8 _ | .ldAAtBc | .ldAAtDe | .ldAtBcA | .ldAtDeA
  | .ldAAtA16 _ | .ldAtA16A _ | .ldhAtA8A _ | .ldhAAtA8 _ | .ldAtCA | .ldAAtC | .ldAtHliA | .ldAAtHli | .ldAtHldA
  | .ldAAtHld | .ldRrD16 _ _ | .ldAtA16Sp _ | .ldSpHl | .push _ | .incRr _ | .decRr _ | .jp _ | .jpCc _ _ | .jpAtHl | .jr _
  | .jrCc _ _ | .call _ | .callCc _ _ | .ret | .retCc _ | .reti | .rst _ | .nop | .stop _ | .halt | .di | .ei | .prefixCb
  | .undef _ | .resR _ _ | .resAtHl _ | .setR _ _ | .setAtHl _ => 0x00

/-- The bus addresses a form stores to, in the state its meaning is applied to: the expressions of the meanings themselves
(41_load8.md, 42_load16.md R151, R154, 43_alu8.md R185, R187, 46_control.md R215, R216, R220, 48_cb_prefixed.md). -/
def formStores (f : Form) (s : State) : List Word :=
  match f with
  | .ldAtHlR _ | .ldAtHlD8 _ | .ldAtHliA | .ldAtHldA | .incAtHl | .decAtHl | .rotAtHl _ | .resAtHl _ | .setAtHl _ => [s.hl]
  | .ldAtBcA => [s.bc]
  | .ldAtDeA => [s.de]
  | .ldAtA16A nn => [nn]
  | .ldhAtA8A n => [highPage n]
  | .ldAtCA => [s.highC]
  | .ldAtA16Sp nn => [nn, nn + 1]
  | .push _ | .call _ | .rst _ => [s.sp - 1, s.sp - 2]
  | .callCc cc _ => if s.cond cc then [s.sp - 1, s.sp - 2] else []
  | .ldRR _ _ | .ldRD8 _ _ | .ldRAtHl _ | .ldAAtBc | .ldAAtDe | .ldAAtA16 _ | .ldhAAtA8 _ | .ldAAtC | .ldAAtHli | .ldAAtHld
  | .ldRrD16 _ _ | .ldSpHl | .ldHlSpR8 _ | .pop _ | .aluR _ _ | .aluAtHl _ | .aluD8 _ _ | .incR _ | .decR _ | .daa | .cpl | .scf
  | .ccf | .addHlRr _ | .incRr _ | .decRr _ | .addSpR8 _ | .rlca | .rrca | .rla | .rra | .jp _ | .jpCc _ _ | .jpAtHl | .jr _
  | .jrCc _ _ | .ret | .retCc _ | .reti | .nop | .stop _ | .halt | .di | .ei | .prefixCb | .undef _ | .rotR _ _ | .bitR _ _
  | .bitAtHl _ | .resR _ _ | .setR _ _ => []

/-- The operation and the second operand of an 8-bit arithmetic or logic instruction: a register, the byte at HL or an immediate
(43_alu8.md); none for any other instruction. -/
def aluOperand (i : Instr) (s : State) : Option (AluOp × Except FaultRecord Byte) :=
  match i.form with
  | .aluR op r => some (op, .ok (s.getReg r))
  | .aluAtHl op => some (op, s.readByte s.hl)
  | .aluD8 op n => some (op, .ok n)
  | _ => none

/-! ### The invariant of the reachable states -/

/-- A current record as the step protocol leaves it (10_state.md R22, R23, 40_engine_and_alu_primitives.md R103, R104): the prefix
byte alone, or a record whose counters have advanced together, each stopping at its budget. A record at both budgets that is
not complete is that of an instruction that raised a fault (R111). -/
def curOk (fault : Option FaultRecord) (r : InstrRecord) : Bool :=
  match r.desc with
  | none => r.opcode == prefixByte && r.params == [] && r.fetch == 1 && r.cycle == 1 && !r.complete
  | some d =>
    decide (r.params.length + 1 = r.fetch) && decide (1 ≤ r.cycle) &&
      decide (r.fetch = min (max r.fetch r.cycle) d.length) && decide (r.cycle = min (max r.fetch r.cycle) d.cycles) &&
      (!r.complete || r.atBudget) && (r.complete || !r.atBudget || fault.isSome)

/-- A last-executed record (10_state.md R24, 40_engine_and_alu_primitives.md R106). -/
def lastOk (r : InstrRecord) : Bool := r.complete && r.atBudget && decide (r.params.length + 1 = r.fetch)

/-- What holds of every state that a run from power-on reaches. -/
structure State.Inv (s : State) : Prop where
  /-- RAM is in canonical form, inside 0x8000 to 0xFFFF. -/
  ram : Cells.wf Config.ramBase Config.spaceSize s.ram = true
  /-- The image is in canonical form, inside its size. -/
  imageCells : Cells.wf 0 s.image.size s.image.cells = true
  /-- No cartridge, or one that passed the validation of `Load` (20_memory.md R62). -/
  imageValid : s.image.size = 0 ∨ s.image.valid = true
  /-- `F[3:0]` is zero (10_state.md R13). -/
  flags : s.f &&& 0x0F = 0
  /-- `rom_bank[4:0]` is not zero (10_state.md R27). -/
  bank : s.romBank.extractLsb' 0 5 ≠ 0
  /-- The current record is one the step protocol makes. -/
  cur : ∀ r, s.cur = some r → curOk s.fault r = true
  /-- The last record is that of a completed instruction. -/
  last : ∀ r, s.last = some r → lastOk r = true

end Sys2Proof.Machine
end

