-- ==== Sys2Proof/Certificates/Slice0/Obligations.lean ====
section
/-! DEFINITION. The statements for the provers. `exec i s` is the effect of `i` at its completing step: `PC` in `s` is already past the
instruction (10_state.md R17). Where a statement speaks of a form (`i.form = …`), it speaks of every constructor of that form. -/

open Sys2Proof Sys2Proof.Machine

/-! ### Encoding -/

/-- One word of each family, written out from its encoding rule (30_encoding.md R80, R84, R85): `LD B,C` is 01 000 001; `LD SP,d16`
00 11 0001; `ADD A,(HL)` 10 000 110; `INC HL` 00 10 0011; `RRA` 0x1F; `JR C,r8` 00 111 000; `RST 28H` 11 101 111; `STOP` 0x10;
`SET 1,E` CB 11 001 011; 0xD3 has no handler. -/
def Obligations.DecodedWords : Prop :=
  decode [0x41] = .ok (.ldBC, []) ∧
  decode [0x31, 0xFE, 0xFF] = .ok (.ldSpD16 0xFFFE, []) ∧
  decode [0x86] = .ok (.addAAtHl, []) ∧
  decode [0x23] = .ok (.incHl, []) ∧
  decode [0x1F] = .ok (.rra, []) ∧
  decode [0x38, 0x80] = .ok (.jrCR8 0x80, []) ∧
  decode [0xEF] = .ok (.rst28, []) ∧
  decode [0x10, 0xCB] = .ok (.stop 0xCB, []) ∧
  decode [0xCB, 0xCB] = .ok (.set1E, []) ∧
  decode [0xD3] = .ok (.undefD3, [])

/-- Decode and encode agree: every instruction, with every operand value, followed by any bytes. The encoder is written from the
field layouts of the instruction rules, the decoder from the printed grids (30_encoding.md R84, R85, R87, R88). -/
def Obligations.DecodeOfEncode : Prop :=
  ∀ (i : Instr) (rest : List Byte), i.WellFormed = true → decode (encode i ++ rest) = .ok (i, rest)

/-- The other direction: what the decoder reads is what the encoder writes, so no two byte sequences stand for one instruction
(30_encoding.md R81, R92). -/
def Obligations.EncodeOfDecode : Prop :=
  ∀ (bs rest : List Byte) (i : Instr), decode bs = .ok (i, rest) → bs = encode i ++ rest

/-- Three bytes always decode, to a well-formed instruction, and to one without a handler exactly for the eleven opcodes
(30_encoding.md R82, R88, R89). -/
def Obligations.EveryByteDecodes : Prop :=
  ∀ (op p0 p1 : Byte) (rest : List Byte), ∃ i tail, decode (op :: p0 :: p1 :: rest) = .ok (i, tail) ∧ i.WellFormed = true ∧
    (i.isHole = true ↔ op ∈ ([0xD3, 0xDB, 0xDD, 0xE3, 0xE4, 0xEB, 0xEC, 0xED, 0xF4, 0xFC, 0xFD] : List Byte))

/-- Declared length and cycle count of every instruction: the length is that of its bytes, the cycle count that of its family
(70_reset_and_hazards.md R312), and only `STOP` is longer than its cycle count (40_engine_and_alu_primitives.md R104). -/
def Obligations.DeclaredCounts : Prop :=
  ∀ i : Instr,
    (i.HasHandler = true → ∃ n, formCycles i.form = some n ∧ counts i = some ((encode i).length, n) ∧ n ≤ 6 ∧
      ((∀ b, i ≠ .stop b) → (encode i).length ≤ n)) ∧
    (i.HasHandler = false → counts i = none)

/-! ### The bus and the bank controller -/

/-- Where a read goes, by address (20_memory.md R45, R46): whatever the controller's registers hold, 0x0000 to 0x3FFF is bank 0. -/
def Obligations.ReadDecoding : Prop :=
  ∀ (s : State) (addr : Word),
    (addr.toNat ≤ 0x3FFF → s.readByte addr = s.image.romByte 0 addr.toNat) ∧
    (0x4000 ≤ addr.toNat → addr.toNat ≤ 0x7FFF → s.readByte addr = s.image.romByte s.romBank.toNat (addr.toNat - 0x4000)) ∧
    (0x8000 ≤ addr.toNat → s.readByte addr = .ok (Cells.read s.ram addr.toNat)) ∧
    (∀ (en : Bool) (rb : BitVec 2) (m : BankMode) (bank : BitVec 7), addr.toNat ≤ 0x3FFF →
      ({ s with ramEnable := en, ramBank := rb, mode := m, romBank := bank } : State).readByte addr = s.readByte addr)

/-- What a read of ROM space returns or raises (20_memory.md R44, R47): the image byte of the bank, or OutOfRange with the bank
index when the image has no such bank and else the offset. The fault is the spec's decision D19. -/
def Obligations.RomReads : Prop :=
  ∀ (s : State) (addr : Word) (bank off : Nat),
    (addr.toNat ≤ 0x3FFF ∧ bank = 0 ∧ off = addr.toNat) ∨
      (0x4000 ≤ addr.toNat ∧ addr.toNat ≤ 0x7FFF ∧ bank = s.romBank.toNat ∧ off = addr.toNat - 0x4000) →
    (bank * 0x4000 + off < s.image.size → s.readByte addr = .ok (s.image.byte (bank * 0x4000 + off))) ∧
    (s.image.size ≤ bank * 0x4000 + off → bank * 0x4000 < s.image.size →
      s.readByte addr = .error { kind := .outOfRange, info := bank * 0x4000 + off }) ∧
    (s.image.size ≤ bank * 0x4000 → s.readByte addr = .error { kind := .outOfRange, info := bank })

/-- A cell of RAM keeps what is written to it, and every other address reads as before; nothing else changes (20_memory.md R42,
R66; flat RAM is the spec's decision D21). -/
def Obligations.RamCells : Prop :=
  ∀ (s : State) (addr : Word) (v : Byte), Cells.wf Config.ramBase Config.spaceSize s.ram = true → 0x8000 ≤ addr.toNat →
    ∃ t, s.writeByte addr v = .ok t ∧ t = { s with ram := t.ram } ∧
      Cells.wf Config.ramBase Config.spaceSize t.ram = true ∧ t.readByte addr = .ok v ∧
      ∀ b, b ≠ addr → t.readByte b = s.readByte b

/-- The three bank-select writes of a banking-capable cartridge (20_memory.md R50, R51, R52). -/
def Obligations.BankSelectWrites : Prop :=
  ∀ (s : State) (addr : Word) (v : Byte), s.image.banking = true →
    (0x2000 ≤ addr.toNat → addr.toNat ≤ 0x3FFF → ∃ t, s.writeByte addr v = .ok t ∧ t = { s with romBank := t.romBank } ∧
      t.romBank.toNat = 32 * (s.romBank.toNat / 32) + (if v.toNat % 32 = 0 then 1 else v.toNat % 32)) ∧
    (0x4000 ≤ addr.toNat → addr.toNat ≤ 0x5FFF → s.mode = .romBanking →
      ∃ t, s.writeByte addr v = .ok t ∧ t = { s with romBank := t.romBank } ∧
        t.romBank.toNat = 32 * (v.toNat % 4) + s.romBank.toNat % 32) ∧
    (0x4000 ≤ addr.toNat → addr.toNat ≤ 0x5FFF → s.mode = .ramBanking →
      ∃ t, s.writeByte addr v = .ok t ∧ t = { s with ramBank := t.ramBank } ∧ t.ramBank.toNat = v.toNat % 4) ∧
    (0x6000 ≤ addr.toNat → addr.toNat ≤ 0x7FFF →
      (v.toNat = 0 → s.writeByte addr v = .ok { s with mode := .romBanking }) ∧
      (v.toNat = 1 → s.writeByte addr v = .ok { s with mode := .ramBanking }) ∧
      (2 ≤ v.toNat → s.writeByte addr v = .error { kind := .invalidArgument, info := v.toNat }))

/-- The RAM-enable write (20_memory.md R49, decision D17), and every write to ROM space on another cartridge type (R54, R60, decision
D20): NotImplemented, whatever the value (60_exceptions.md R272). -/
def Obligations.RamEnableAndUnbankedWrites : Prop :=
  ∀ (s : State) (addr : Word) (v : Byte),
    (s.image.cartType.toNat ∈ [1, 2, 3] → addr.toNat ≤ 0x1FFF →
      s.writeByte addr v = .ok { s with ramEnable := decide (v.toNat % 16 = 10) }) ∧
    (s.image.cartType.toNat ∉ [1, 2, 3] → addr.toNat ≤ 0x7FFF →
      s.writeByte addr v = .error { kind := .notImplemented, info := 0x200 + s.image.cartType.toNat })

/-- No write changes what a ROM address returns except through `rom_bank` (20_memory.md R43, R55). -/
def Obligations.RomReadsByBankAlone : Prop :=
  ∀ (s t : State) (addr : Word) (v : Byte), s.writeByte addr v = .ok t →
    t.image = s.image ∧ (∀ b : Word, b.toNat ≤ 0x3FFF → t.readByte b = s.readByte b) ∧
    (∀ b : Word, b.toNat ≤ 0x7FFF → t.romBank = s.romBank → t.readByte b = s.readByte b)

/-! ### The invariant -/

/-- The state after power-on meets the invariant. -/
def Obligations.InvAtReset : Prop := State.reset.Inv

/-- Every step keeps the invariant: RAM and image canonical, the image valid, `F[3:0]` zero (10_state.md R13), `rom_bank[4:0]` not
zero (R27), the records as the step protocol makes them (R22 to R24). -/
def Obligations.StepKeepsInv : Prop := ∀ s t : State, s.Inv → step s = .next t → t.Inv

/-- So does every single host `Step`, with an injected opcode or without (40_engine_and_alu_primitives.md R102 to R107). -/
def Obligations.EngineStepKeepsInv : Prop :=
  ∀ (inj : Option Byte) (s t : State) (r : StepResult), s.Inv → engineStep inj s = .next (r, t) → t.Inv

/-- So does every host command; `Load` is given an image and a RAM content in the model's canonical form. -/
def Obligations.CommandsKeepInv : Prop :=
  ∀ (cmd : Command) (s t : State) (resp : Response), s.Inv →
    (∀ image ramInit, cmd = .load image ramInit → Cells.wf 0 image.size image.cells = true ∧
      Cells.wf Config.ramBase Config.spaceSize ramInit = true) →
    applyCommand cmd s = .next (resp, t) → t.Inv

/-! ### The step protocol, faults and reset -/

/-- The fault latch (60_exceptions.md R263, R271, R274, 70_reset_and_hazards.md R294; the latch is the spec's decision D9): while it is
set no step changes anything, no command but `Reset` clears it, and `Reset` does. -/
def Obligations.LatchSticky : Prop :=
  ∀ (s : State) (r : FaultRecord), s.fault = some r →
    (s.hasCartridge = true → step s = .fault (.latched r) ∧ ∀ inj, engineStep inj s = .fault (.latched r)) ∧
    (∀ cmd resp t, cmd ≠ .reset → applyCommand cmd s = .next (resp, t) → t.fault = some r) ∧
    (s.hasCartridge = true → ∃ t, applyCommand .reset s = .next (.done, t) ∧ t.fault = none)

/-- The breakpoint (40_engine_and_alu_primitives.md R110, decision D8): at a dispatch with `bp_en = 1` and `PC = bp_addr` a step
returns Break and changes nothing, and at no other time. -/
def Obligations.BreakpointHolds : Prop :=
  (∀ s : State, s.hasCartridge = true → s.fault = none → s.inFlight = none → s.bpEn = true → s.pc = s.bpAddr →
    step s = .next s ∧ ∀ inj, engineStep inj s = .next (.brk, s)) ∧
  (∀ (inj : Option Byte) (s t : State), engineStep inj s = .next (.brk, t) →
    t = s ∧ s.inFlight = none ∧ s.fault = none ∧ s.bpEn = true ∧ s.pc = s.bpAddr)

/-- A step runs the decoded instruction (40_engine_and_alu_primitives.md R109): with the bytes of `i` at `PC`, a step moves `PC` past
them, records them in `cur`, applies `exec i` and, unless a fault was raised, completes the record. An opcode without a handler
is run as soon as its byte is fetched (47_system.md R231). -/
def Obligations.StepRunsDecoded : Prop :=
  (∀ (i : Instr) (s : State) (op : Byte) (params : List Byte) (len cyc : Nat),
    encode i = op :: params → counts i = some (len, cyc) → s.ready = true → s.holds s.pc (encode i) →
    step s = match exec i (({ s with pc := s.pc + BitVec.ofNat 16 len } : State).record op params len cyc) with
      | .next t => .next t.finish
      | .fault q => .fault q
      | .refused q => .refused q) ∧
  (∀ (i : Instr) (s : State), i.isHole = true → s.ready = true → s.holds s.pc (encode i) →
    step s = exec i { s with pc := s.pc + 1 })

/-- The instruction-level step is the step protocol run to its boundary (40_engine_and_alu_primitives.md R109): for every state,
faults, breakpoint and instructions in flight included, one `step` is what at most six host `Step`s do. It discharges log 1 (DEDUCED). -/
def Obligations.StepIsEngineRun : Prop := ∀ s : State, step s = engineRun maxSteps s

/-- The counters guarantee (40_engine_and_alu_primitives.md R106): when a `Step` returns Complete, `last` and `cur` are one record
with both counters at its budgets and `L - 1` parameter bytes; a prefixed one holds the secondary opcode. -/
def Obligations.CountersGuarantee : Prop :=
  ∀ (inj : Option Byte) (s t : State), s.Inv → engineStep inj s = .next (.complete, t) →
    ∃ r d, t.last = some r ∧ t.cur = some r ∧ r.desc = some d ∧ r.complete = true ∧ r.fetch = d.length ∧ r.cycle = d.cycles ∧
      r.params.length + 1 = d.length ∧ (r.opcode = 0xCB → ∃ b, r.params = [b] ∧ d = secondary b)

/-- Before its completing step an instruction changes only `PC` and `cur`, and each counter stops at its budget
(40_engine_and_alu_primitives.md R104, R105; decisions D5, D6). -/
def Obligations.NothingBeforeCompletion : Prop :=
  ∀ (inj : Option Byte) (s t : State), engineStep inj s = .next (.fetching, t) →
    ∃ r, t.cur = some r ∧ r.complete = false ∧ t = { s with pc := t.pc, cur := t.cur } ∧ (t.pc = s.pc ∨ t.pc = s.pc + 1) ∧
      ∀ r0 d, s.inFlight = some r0 → r0.desc = some d →
        r.opcode = r0.opcode ∧ r.fetch = (if r0.fetch < d.length then r0.fetch + 1 else r0.fetch) ∧
        r.cycle = (if r0.cycle < d.cycles then r0.cycle + 1 else r0.cycle) ∧
        t.pc = (if r0.fetch < d.length then s.pc + 1 else s.pc)

/-- An injected opcode (40_engine_and_alu_primitives.md R107, decision D7) acts as a fetched one but does not move `PC`, and is
ignored while an instruction is in flight. -/
def Obligations.InjectedOpcode : Prop :=
  (∀ (op : Byte) (s : State) (r : InstrRecord), s.inFlight = some r → engineStep (some op) s = engineStep none s) ∧
  (∀ (op : Byte) (s : State), s.ready = true → s.bpEn = false → s.readByte s.pc = .ok op →
    engineStep none s = engineStep (some op) { s with pc := s.pc + 1 }) ∧
  (∀ (op : Byte) (s t : State), s.ready = true → engineStep (some op) s = .next (.fetching, t) → t.pc = s.pc)

/-- What `Reset` leaves (70_reset_and_hazards.md R291 to R296; the values are the spec's decisions D13, D14). -/
def Obligations.ResetEffect : Prop :=
  ∀ s : State, s.hasCartridge = true → ∃ t, applyCommand .reset s = .next (.done, t) ∧
    (t.a = 0x01 ∧ t.f = 0xB0 ∧ t.b = 0x00 ∧ t.c = 0x13 ∧ t.d = 0x00 ∧ t.e = 0xD8 ∧ t.h = 0x01 ∧ t.l = 0x4D ∧
      t.sp = 0xFFFE ∧ t.pc = 0x0100) ∧
    (t.cur = none ∧ t.fault = none ∧ t.last = s.last) ∧
    (t.romBank = s.romBank ∧ t.ramBank = s.ramBank ∧ t.mode = s.mode ∧ t.ramEnable = s.ramEnable ∧ t.bpEn = s.bpEn ∧
      t.bpAddr = s.bpAddr ∧ t.image = s.image) ∧
    (∀ a : Word, a.toNat ∉ Config.resetSeeds.map Prod.fst → t.readByte a = s.readByte a) ∧
    (Cells.wf Config.ramBase Config.spaceSize s.ram = true → ∀ (a : Word) (v : Byte), (a.toNat, v) ∈ Config.resetSeeds →
      t.readByte a = .ok v)

/-- The state after power-on (70_reset_and_hazards.md R297, 10_state.md R35), for every image and every RAM_INIT: each field at its
value, the 31 seeded cells at those of R292 (decisions D13, D14), every other cell as RAM_INIT gives it. The host commands `Load` of a
valid image and then `Reset` leave exactly it, whatever the state before: no record, no fault, no breakpoint. `State.reset` is the one
with no image (log 5) and RAM_INIT zero (log 4), the model's own choices; the canonical form of RAM_INIT is the model's too. -/
def Obligations.PowerOnState : Prop :=
  (∀ (image : Image) (ramInit : List Host.Cell), ∃ ram : List Host.Cell,
    State.powerOn image ramInit =
      { a := 0x01, b := 0x00, c := 0x13, d := 0x00, e := 0xD8, h := 0x01, l := 0x4D, f := 0xB0, sp := 0xFFFE, pc := 0x0100,
        cur := none, last := none, fault := none, ramEnable := false, romBank := 1, ramBank := 0, mode := .romBanking,
        bpEn := false, bpAddr := 0, ram := ram, image := image } ∧
    (∀ a : Nat, a ∉ Config.resetSeeds.map Prod.fst → Cells.read ram a = Cells.read ramInit a) ∧
    (Cells.wf Config.ramBase Config.spaceSize ramInit = true →
      Cells.wf Config.ramBase Config.spaceSize ram = true ∧ ∀ c ∈ Config.resetSeeds, Cells.read ram c.1 = c.2)) ∧
  (∀ (s : State) (image : Image) (ramInit : List Host.Cell), image.valid = true →
    ∃ t, applyCommand (.load image ramInit) s = .next (.done, t) ∧
      applyCommand .reset t = .next (.done, State.powerOn image ramInit)) ∧
  State.reset = State.powerOn Image.none []

/-- `Load` (20_memory.md R61, R62, 60_exceptions.md R268; logo and checksum are the spec's decision D29): a valid image is installed with
the controller at its initial values (D16); another leaves the block without a cartridge, returns LoadValidationFailure and sets no
latch, and no step is possible. The model's choices: that the clearing of `last` and of the breakpoint registers at power-on (R297) is
`Load`'s, and that either `Load` leaves every other field as it was (log 12, DEDUCED), and that a block without a
cartridge is the state with `Image.none`, its steps refused as `noCartridge` (log 5, DESIGN CHOICE). -/
def Obligations.LoadValidation : Prop :=
  ∀ (s : State) (image : Image) (ramInit : List Host.Cell),
    (image.valid = true ↔ 0x150 ≤ image.size ∧ (∀ k, k < 48 → image.byte (0x104 + k) = logo.getD k 0) ∧
      image.byte 0x14D = (List.range 25).foldl (fun x k => x - image.byte (0x134 + k) - 1) 0) ∧
    (image.valid = true → ∃ t, applyCommand (.load image ramInit) s = .next (.done, t) ∧
      t = { s with image := image, romBank := 1, ramBank := 0, mode := .romBanking, ramEnable := false, ram := ramInit,
                   last := none, bpEn := false, bpAddr := 0 }) ∧
    (image.valid = false → ∃ t,
      applyCommand (.load image ramInit) s = .next (.failed { kind := .loadValidationFailure, info := 0 }, t) ∧
      t = { s with image := Image.none } ∧ step t = .refused .noCartridge ∧ ∀ inj, engineStep inj t = .refused .noCartridge)

/-- No host command but the steps and `Reset` writes a CPU register, `cur` or the fault latch (10_state.md R15, 60_exceptions.md R274), and
none writes `last` but a `Load` that succeeds, which begins power-on (70_reset_and_hazards.md R297; that it is `Load` that clears it is
the model's reading, log 12, DEDUCED). -/
def Obligations.HostWritesNoRegister : Prop :=
  ∀ (cmd : Command) (s t : State) (resp : Response), cmd ≠ .step → (∀ op, cmd ≠ .stepInjected op) → cmd ≠ .reset →
    applyCommand cmd s = .next (resp, t) →
    t = { s with bpEn := t.bpEn, bpAddr := t.bpAddr, ramEnable := t.ramEnable, romBank := t.romBank, ramBank := t.ramBank,
                 mode := t.mode, ram := t.ram, image := t.image, last := t.last } ∧
    (t.last = s.last ∨ t.last = none ∧ ∃ image ramInit, cmd = .load image ramInit ∧ image.valid = true)

/-- What the host's bus commands and `SetBreakpoint` do (20_memory.md R56, R57, 60_exceptions.md R274, 10_state.md R31,
40_engine_and_alu_primitives.md R100; decisions D28, D30). `GetByte` and `SetByte` are the bus access of R45 and R48, or OutOfRange outside
0x0000 to 0xFFFF; a fault is returned and changes nothing. A bulk run that leaves the address space moves no byte; one inside it is its
bytes' single accesses in ascending order, up to the first that fails; a run written to RAM is read back. The model's choices (DESIGN
CHOICE): that these commands also answer on a block without a cartridge (log 13), and that a fault met at an address inside the space
is returned with the bus access's own `info`, bank index or image offset, where R261 has 'the offending address' (log 14). -/
def Obligations.HostAccess : Prop :=
  ∀ s : State,
    (∀ w : Word,
      (∀ v, s.readByte w = .ok v → applyCommand (.getByte w.toNat) s = .next (.byte v, s)) ∧
      (∀ r, s.readByte w = .error r → applyCommand (.getByte w.toNat) s = .next (.failed r, s)) ∧
      (∀ v t, s.writeByte w v = .ok t → applyCommand (.setByte w.toNat v) s = .next (.done, t)) ∧
      (∀ v r, s.writeByte w v = .error r → applyCommand (.setByte w.toNat v) s = .next (.failed r, s))) ∧
    (∀ (a : Int) (v : Byte), a < 0 ∨ 0x10000 ≤ a → ∃ info,
      applyCommand (.getByte a) s = .next (.failed { kind := .outOfRange, info := info }, s) ∧
      applyCommand (.setByte a v) s = .next (.failed { kind := .outOfRange, info := info }, s)) ∧
    (∀ (en : Bool) (w : Word), applyCommand (.setBreakpoint en w) s = .next (.done, { s with bpEn := en, bpAddr := w })) ∧
    (∀ (a : Int) (bs : List Byte), a < 0 ∨ 0x10000 < a + bs.length → ∃ info,
      applyCommand (.bulkWrite a bs) s = .next (.failed { kind := .outOfRange, info := info }, s) ∧
      applyCommand (.bulkRead a bs.length) s = .next (.failed { kind := .outOfRange, info := info }, s)) ∧
    (∀ a : Int, 0 ≤ a → a ≤ 0x10000 →
      applyCommand (.bulkWrite a []) s = .next (.done, s) ∧ applyCommand (.bulkRead a 0) s = .next (.bytes [], s)) ∧
    (∀ (a : Int) (v : Byte) (vs : List Byte), 0 ≤ a → a + (v :: vs).length ≤ 0x10000 →
      (∀ t, applyCommand (.setByte a v) s = .next (.done, t) →
        applyCommand (.bulkWrite a (v :: vs)) s = applyCommand (.bulkWrite (a + 1) vs) t) ∧
      (∀ r, applyCommand (.setByte a v) s = .next (.failed r, s) →
        applyCommand (.bulkWrite a (v :: vs)) s = .next (.failed r, s))) ∧
    (∀ (a : Int) (n : Nat), 0 ≤ a → a + ((n + 1 : Nat) : Int) ≤ 0x10000 →
      (∀ v vs, applyCommand (.getByte a) s = .next (.byte v, s) → applyCommand (.bulkRead (a + 1) n) s = .next (.bytes vs, s) →
        applyCommand (.bulkRead a (n + 1)) s = .next (.bytes (v :: vs), s)) ∧
      (∀ v r, applyCommand (.getByte a) s = .next (.byte v, s) → applyCommand (.bulkRead (a + 1) n) s = .next (.failed r, s) →
        applyCommand (.bulkRead a (n + 1)) s = .next (.failed r, s)) ∧
      (∀ r, applyCommand (.getByte a) s = .next (.failed r, s) → applyCommand (.bulkRead a (n + 1)) s = .next (.failed r, s))) ∧
    (∀ (a : Int) (bs : List Byte), 0x8000 ≤ a → a + bs.length ≤ 0x10000 → Cells.wf Config.ramBase Config.spaceSize s.ram = true →
      ∃ t, applyCommand (.bulkWrite a bs) s = .next (.done, t) ∧ applyCommand (.bulkRead a bs.length) t = .next (.bytes bs, t))

/-- Queries (40_engine_and_alu_primitives.md R108) change no state and return the descriptor of the primary table, the two records, the
registers with the four flags, and the controller's registers. All 256 entries have a descriptor; the prefix byte (30_encoding.md R82) and
the eleven opcodes of R89 have no handler and, as the table gives them null, no L and no N. The mnemonic is left open. That the queries
also answer on a block without a cartridge, which R290 gives no defined state, is the model's choice (log 13, DESIGN CHOICE). -/
def Obligations.QueriesArePure : Prop :=
  ∀ s : State,
    (∀ op : Byte, ∃ v, applyCommand (.queryOpcode op) s = .next (.descriptor v, s) ∧ v.opcode = op ∧
      (v.hasHandler = false ↔ op = 0xCB ∨ op ∈ ([0xD3, 0xDB, 0xDD, 0xE3, 0xE4, 0xEB, 0xEC, 0xED, 0xF4, 0xFC, 0xFD] : List Byte)) ∧
      (v.hasHandler = false → v.length = none ∧ v.cycles = none) ∧
      (v.hasHandler = true → ∀ i rest, decode [op, 0, 0] = .ok (i, rest) →
        ∃ len cyc, counts i = some (len, cyc) ∧ v.length = some len ∧ v.cycles = some cyc)) ∧
    applyCommand .queryCurrent s = .next (.record s.cur, s) ∧
    applyCommand .queryLast s = .next (.record s.last, s) ∧
    (∃ v, applyCommand .queryRegisters s = .next (.registers v, s) ∧
      (v.a = s.a ∧ v.f = s.f ∧ v.b = s.b ∧ v.c = s.c ∧ v.d = s.d ∧ v.e = s.e ∧ v.h = s.h ∧ v.l = s.l ∧ v.sp = s.sp ∧ v.pc = s.pc) ∧
      v.zero = s.f.getLsbD 7 ∧ v.subtract = s.f.getLsbD 6 ∧ v.halfCarry = s.f.getLsbD 5 ∧ v.carry = s.f.getLsbD 4) ∧
    ∃ v, applyCommand .queryController s = .next (.controller v, s) ∧ v.ramEnable = s.ramEnable ∧ v.romBank = s.romBank ∧
      v.ramBank = s.ramBank ∧ v.mode = s.mode

/-! ### 8-bit loads and stores (41_load8.md) -/

/-- R130 `LD r,r'` (49 constructors), R131 `LD r,d8` (7), R132 `LD r,(HL)` (7). -/
def Obligations.LoadRegister : Prop :=
  ∀ (i : Instr) (s : State),
    (∀ dst src, i.form = .ldRR dst src → Encodes i [0x40 + 8 * dst.code + src.code] 1 1 ∧
      exec i s = .next (s.setReg dst (s.getReg src))) ∧
    (∀ dst n, i.form = .ldRD8 dst n → Encodes i [0x06 + 8 * dst.code, n] 2 2 ∧ exec i s = .next (s.setReg dst n)) ∧
    (∀ dst, i.form = .ldRAtHl dst → Encodes i [0x46 + 8 * dst.code] 1 2 ∧
      (∀ v, s.readByte s.hl = .ok v → exec i s = .next (s.setReg dst v)) ∧
      (∀ r, s.readByte s.hl = .error r → exec i s = .next { s with fault := some r }))

/-- R133 `LD (HL),r` (7 constructors), R134 `LD (HL),d8`: a store, or below 0x8000 a bank-controller command. -/
def Obligations.StoreAtHl : Prop :=
  ∀ (i : Instr) (s : State) (v : Byte) (bytes : List Byte) (L N : Nat),
    (∃ src, i.form = .ldAtHlR src ∧ v = s.getReg src ∧ (bytes, L, N) = ([0x70 + src.code], 1, 2)) ∨
      (i.form = .ldAtHlD8 v ∧ (bytes, L, N) = ([0x36, v], 2, 3)) →
    Encodes i bytes L N ∧
    (∀ t, s.writeByte s.hl v = .ok t → exec i s = .next t) ∧
    (∀ r, s.writeByte s.hl v = .error r → exec i s = .next { s with fault := some r })

/-- R135 `LD A,(BC)`, R136 `LD A,(DE)`, R139 `LD A,(a16)`, R142 `LDH A,(a8)`, R144 `LD A,(C)`; the last two cannot fault. -/
def Obligations.LoadA : Prop :=
  ∀ (i : Instr) (s : State) (addr : Word) (bytes : List Byte) (L N : Nat),
    (i.form = .ldAAtBc ∧ addr = s.bc ∧ (bytes, L, N) = ([0x0A], 1, 2)) ∨
    (i.form = .ldAAtDe ∧ addr = s.de ∧ (bytes, L, N) = ([0x1A], 1, 2)) ∨
    (i.form = .ldAAtA16 addr ∧ (bytes, L, N) = ([0xFA, loByte addr, hiByte addr], 3, 4)) ∨
    (∃ n : Byte, i.form = .ldhAAtA8 n ∧ addr = 0xFF00 + n.setWidth 16 ∧ (bytes, L, N) = ([0xF0, n], 2, 3)) ∨
    (i.form = .ldAAtC ∧ addr = 0xFF00 + s.c.setWidth 16 ∧ (bytes, L, N) = ([0xF2], 1, 2)) →
    Encodes i bytes L N ∧
    (∀ v, s.readByte addr = .ok v → exec i s = .next { s with a := v }) ∧
    (∀ r, s.readByte addr = .error r → exec i s = .next { s with fault := some r }) ∧
    ((∃ n, i.form = .ldhAAtA8 n) ∨ i.form = .ldAAtC → ∃ v, s.readByte addr = .ok v)

/-- R137 `LD (BC),A`, R138 `LD (DE),A`, R140 `LD (a16),A`, R141 `LDH (a8),A`, R143 `LD (C),A`; the last two cannot
fault. -/
def Obligations.StoreA : Prop :=
  ∀ (i : Instr) (s : State) (addr : Word) (bytes : List Byte) (L N : Nat),
    (i.form = .ldAtBcA ∧ addr = s.bc ∧ (bytes, L, N) = ([0x02], 1, 2)) ∨
    (i.form = .ldAtDeA ∧ addr = s.de ∧ (bytes, L, N) = ([0x12], 1, 2)) ∨
    (i.form = .ldAtA16A addr ∧ (bytes, L, N) = ([0xEA, loByte addr, hiByte addr], 3, 4)) ∨
    (∃ n : Byte, i.form = .ldhAtA8A n ∧ addr = 0xFF00 + n.setWidth 16 ∧ (bytes, L, N) = ([0xE0, n], 2, 3)) ∨
    (i.form = .ldAtCA ∧ addr = 0xFF00 + s.c.setWidth 16 ∧ (bytes, L, N) = ([0xE2], 1, 2)) →
    Encodes i bytes L N ∧
    (∀ t, s.writeByte addr s.a = .ok t → exec i s = .next t) ∧
    (∀ r, s.writeByte addr s.a = .error r → exec i s = .next { s with fault := some r }) ∧
    ((∃ n, i.form = .ldhAtA8A n) ∨ i.form = .ldAtCA → ∃ t, s.writeByte addr s.a = .ok t)

/-- R145 `LD (HL+),A`, R146 `LD A,(HL+)`, R147 `LD (HL-),A`, R148 `LD A,(HL-)`: the access, then HL; on a fault HL and A are
unchanged. -/
def Obligations.PostIncrementLoads : Prop :=
  ∀ (i : Instr) (s : State) (next : Word) (bytes : List Byte) (L N : Nat),
    ((i.form = .ldAtHliA ∧ next = s.hl + 1 ∧ (bytes, L, N) = ([0x22], 1, 2)) ∨
        (i.form = .ldAtHldA ∧ next = s.hl - 1 ∧ (bytes, L, N) = ([0x32], 1, 2)) →
      Encodes i bytes L N ∧
      (∀ t, s.writeByte s.hl s.a = .ok t → exec i s = .next { t with h := hiByte next, l := loByte next }) ∧
      (∀ r, s.writeByte s.hl s.a = .error r → exec i s = .next { s with fault := some r })) ∧
    ((i.form = .ldAAtHli ∧ next = s.hl + 1 ∧ (bytes, L, N) = ([0x2A], 1, 2)) ∨
        (i.form = .ldAAtHld ∧ next = s.hl - 1 ∧ (bytes, L, N) = ([0x3A], 1, 2)) →
      Encodes i bytes L N ∧
      (∀ v, s.readByte s.hl = .ok v → exec i s = .next { s with a := v, h := hiByte next, l := loByte next }) ∧
      (∀ r, s.readByte s.hl = .error r → exec i s = .next { s with fault := some r }))

/-! ### 16-bit loads and the stack (42_load16.md) -/

/-- R150 `LD rr,d16` (BC, DE, HL, SP), R152 `LD SP,HL`. -/
def Obligations.LoadPair : Prop :=
  ∀ (i : Instr) (s : State),
    (∀ p nn, i.form = .ldRrD16 p nn → Encodes i [0x01 + 16 * p.code, loByte nn, hiByte nn] 3 3 ∧
      exec i s = .next (match p with
        | .bc => { s with b := hiByte nn, c := loByte nn }
        | .de => { s with d := hiByte nn, e := loByte nn }
        | .hl => { s with h := hiByte nn, l := loByte nn }
        | .sp => { s with sp := nn })) ∧
    (i.form = .ldSpHl → Encodes i [0xF9] 1 2 ∧ exec i s = .next { s with sp := joinBytes s.h s.l })

/-- R153 `LD HL,SP+r8`, R203 `ADD SP,r8`: the flags come from the unsigned addition of the low byte, Z and N are cleared. -/
def Obligations.SpPlusOffset : Prop :=
  ∀ (i : Instr) (s : State) (e : Byte),
    (i.form = .ldHlSpR8 e → Encodes i [0xF8, e] 2 3 ∧ ∃ t, exec i s = .next t ∧ t = { s with h := t.h, l := t.l, f := t.f } ∧
      joinBytes t.h t.l = s.sp + e.signExtend 16 ∧
      t.flagsAre false false (decide (s.sp.toNat % 16 + e.toNat % 16 > 0xF)) (decide (s.sp.toNat % 256 + e.toNat > 0xFF))) ∧
    (i.form = .addSpR8 e → Encodes i [0xE8, e] 2 4 ∧ ∃ t, exec i s = .next t ∧ t = { s with sp := t.sp, f := t.f } ∧
      t.sp = s.sp + e.signExtend 16 ∧
      t.flagsAre false false (decide (s.sp.toNat % 16 + e.toNat % 16 > 0xF)) (decide (s.sp.toNat % 256 + e.toNat > 0xFF)))

/-- R151 `LD (a16),SP`: low byte at a16, then high byte at a16 + 1; a fault of the second write leaves the first done
(60_exceptions.md R266; the order is the spec's decision D22). -/
def Obligations.StoreSp : Prop :=
  ∀ (i : Instr) (s : State) (nn : Word), i.form = .ldAtA16Sp nn →
    Encodes i [0x08, loByte nn, hiByte nn] 3 5 ∧
    (∀ s1 s2, s.writeByte nn (loByte s.sp) = .ok s1 → s1.writeByte (nn + 1) (hiByte s.sp) = .ok s2 → exec i s = .next s2) ∧
    (∀ r, s.writeByte nn (loByte s.sp) = .error r → exec i s = .next { s with fault := some r }) ∧
    (∀ s1 r, s.writeByte nn (loByte s.sp) = .ok s1 → s1.writeByte (nn + 1) (hiByte s.sp) = .error r →
      exec i s = .next { s1 with fault := some r })

/-- R154 `PUSH rr2`: high byte at SP-1, then low byte at SP-2, then SP; a fault leaves SP unchanged and the first byte written (the
order is the spec's decision D22). -/
def Obligations.PushPair : Prop :=
  ∀ (i : Instr) (s : State) (p : StackPair) (w : Word), i.form = .push p →
    w = (match p with | .bc => joinBytes s.b s.c | .de => joinBytes s.d s.e | .hl => joinBytes s.h s.l | .af => joinBytes s.a s.f) →
    Encodes i [0xC5 + 16 * p.code] 1 4 ∧
    (∀ s1 s2, s.writeByte (s.sp - 1) (hiByte w) = .ok s1 → s1.writeByte (s.sp - 2) (loByte w) = .ok s2 →
      exec i s = .next { s2 with sp := s.sp - 2 }) ∧
    (∀ r, s.writeByte (s.sp - 1) (hiByte w) = .error r → exec i s = .next { s with fault := some r }) ∧
    (∀ s1 r, s.writeByte (s.sp - 1) (hiByte w) = .ok s1 → s1.writeByte (s.sp - 2) (loByte w) = .error r →
      exec i s = .next { s1 with fault := some r })

/-- R155 `POP rr2`: low byte at SP, then high byte at SP+1; `POP AF` discards bits 3:0 of the low byte; a faulting read leaves SP and
the pair unchanged. -/
def Obligations.PopPair : Prop :=
  ∀ (i : Instr) (s : State) (p : StackPair), i.form = .pop p →
    Encodes i [0xC1 + 16 * p.code] 1 3 ∧
    (∀ lo hi, s.readByte s.sp = .ok lo → s.readByte (s.sp + 1) = .ok hi → exec i s = .next (match p with
      | .bc => { s with sp := s.sp + 2, b := hi, c := lo }
      | .de => { s with sp := s.sp + 2, d := hi, e := lo }
      | .hl => { s with sp := s.sp + 2, h := hi, l := lo }
      | .af => { s with sp := s.sp + 2, a := hi, f := lo &&& 0xF0 })) ∧
    (∀ r, s.readByte s.sp = .error r → exec i s = .next { s with fault := some r }) ∧
    (∀ lo r, s.readByte s.sp = .ok lo → s.readByte (s.sp + 1) = .error r → exec i s = .next { s with fault := some r })

/-- A pair pushed to RAM and popped into any pair: SP is restored and the word arrives, `POP AF` without bits 3:0
(42_load16.md R154, R155). -/
def Obligations.PushThenPop : Prop :=
  ∀ (i j : Instr) (s : State) (p q : StackPair), i.form = .push p → j.form = .pop q →
    Cells.wf Config.ramBase Config.spaceSize s.ram = true → 0x8000 ≤ (s.sp - 1).toNat → 0x8000 ≤ (s.sp - 2).toNat →
    ∃ t u, exec i s = .next t ∧ exec j t = .next u ∧ u.sp = s.sp ∧
      u = { s.setStackPair q (s.getStackPair p) with ram := t.ram }

/-! ### 8-bit arithmetic and logic (43_alu8.md) -/

/-- R160 to R162 `ADD`, R163 to R165 `ADC`, with a register, (HL) and d8 (18 constructors); R195. -/
def Obligations.AddAdc : Prop :=
  ∀ (i : Instr) (s : State) (op : AluOp), op = .add ∨ op = .adc →
    (∀ src, i.form = .aluR op src → Encodes i [0x80 + 8 * op.code + src.code] 1 1) ∧
    (i.form = .aluAtHl op → Encodes i [0x86 + 8 * op.code] 1 2) ∧
    (∀ n, i.form = .aluD8 op n → Encodes i [0xC6 + 8 * op.code, n] 2 2) ∧
    (∀ r, aluOperand i s = some (op, .error r) → exec i s = .next { s with fault := some r }) ∧
    (∀ (b : Byte) (cin : Nat), aluOperand i s = some (op, .ok b) → cin = (if op = .adc then s.cf.toNat else 0) →
      ∃ t, exec i s = .next t ∧ t = { s with a := t.a, f := t.f } ∧ t.a.toNat = (s.a.toNat + b.toNat + cin) % 256 ∧
        t.flagsAre (decide ((s.a.toNat + b.toNat + cin) % 256 = 0)) false
          (decide (s.a.toNat % 16 + b.toNat % 16 + cin > 0xF)) (decide (s.a.toNat + b.toNat + cin > 0xFF)))

/-- R166 to R168 `SUB`, R169 to R171 `SBC`, R181 to R183 `CP` (27 constructors); R196: borrows, on unbounded integers; CP leaves A. -/
def Obligations.SubSbcCp : Prop :=
  ∀ (i : Instr) (s : State) (op : AluOp), op = .sub ∨ op = .sbc ∨ op = .cp →
    (∀ src, i.form = .aluR op src → Encodes i [0x80 + 8 * op.code + src.code] 1 1) ∧
    (i.form = .aluAtHl op → Encodes i [0x86 + 8 * op.code] 1 2) ∧
    (∀ n, i.form = .aluD8 op n → Encodes i [0xC6 + 8 * op.code, n] 2 2) ∧
    (∀ r, aluOperand i s = some (op, .error r) → exec i s = .next { s with fault := some r }) ∧
    (∀ (b : Byte) (cin d : Int), aluOperand i s = some (op, .ok b) → cin = (if op = .sbc ∧ s.cf = true then 1 else 0) →
      d = s.a.toNat - b.toNat - cin →
      ∃ t, exec i s = .next t ∧ t = { s with a := t.a, f := t.f } ∧ t.a = (if op = .cp then s.a else BitVec.ofInt 8 d) ∧
        t.flagsAre (decide (d % 256 = 0)) true (decide ((s.a.toNat % 16 : Int) < b.toNat % 16 + cin))
          (decide ((s.a.toNat : Int) < b.toNat + cin)))

/-- R172 to R174 `AND`, R175 to R177 `XOR`, R178 to R180 `OR` (27 constructors); R197. -/
def Obligations.Logic : Prop :=
  ∀ (i : Instr) (s : State) (op : AluOp), op = .land ∨ op = .lxor ∨ op = .lor →
    (∀ src, i.form = .aluR op src → Encodes i [0x80 + 8 * op.code + src.code] 1 1) ∧
    (i.form = .aluAtHl op → Encodes i [0x86 + 8 * op.code] 1 2) ∧
    (∀ n, i.form = .aluD8 op n → Encodes i [0xC6 + 8 * op.code, n] 2 2) ∧
    (∀ r, aluOperand i s = some (op, .error r) → exec i s = .next { s with fault := some r }) ∧
    (∀ b : Byte, aluOperand i s = some (op, .ok b) →
      ∃ t, exec i s = .next t ∧ t = { s with a := t.a, f := t.f } ∧
        (∀ k, t.a.getLsbD k = if op = .land then s.a.getLsbD k && b.getLsbD k
          else if op = .lxor then (s.a.getLsbD k ^^ b.getLsbD k) else s.a.getLsbD k || b.getLsbD k) ∧
        t.flagsAre (decide (t.a = 0)) false (decide (op = .land)) false)

/-- R184 `INC r`, R186 `DEC r` (7 constructors each), R185 `INC (HL)`, R187 `DEC (HL)`: C is kept; the `(HL)` forms read, write the
flags, then write the byte, so a faulting write leaves the flags written. -/
def Obligations.IncDec8 : Prop :=
  ∀ (i : Instr) (s : State),
    (∀ r, i.form = .incR r → Encodes i [0x04 + 8 * r.code] 1 1 ∧
      ∃ t, exec i s = .next t ∧ t = { s.setReg r (s.getReg r + 1) with f := t.f } ∧
        t.flagsAre (decide (s.getReg r = 0xFF)) false (decide ((s.getReg r).toNat % 16 = 15)) s.cf) ∧
    (∀ r, i.form = .decR r → Encodes i [0x05 + 8 * r.code] 1 1 ∧
      ∃ t, exec i s = .next t ∧ t = { s.setReg r (s.getReg r - 1) with f := t.f } ∧
        t.flagsAre (decide (s.getReg r = 0x01)) true (decide ((s.getReg r).toNat % 16 = 0)) s.cf) ∧
    (i.form = .incAtHl → Encodes i [0x34] 1 3 ∧ ∀ v, s.readByte s.hl = .ok v →
      ∃ s1 : State, s1 = { s with f := s1.f } ∧ s1.flagsAre (decide (v = 0xFF)) false (decide (v.toNat % 16 = 15)) s.cf ∧
        (∀ t, s1.writeByte s.hl (v + 1) = .ok t → exec i s = .next t) ∧
        (∀ r, s1.writeByte s.hl (v + 1) = .error r → exec i s = .next { s1 with fault := some r })) ∧
    (i.form = .decAtHl → Encodes i [0x35] 1 3 ∧ ∀ v, s.readByte s.hl = .ok v →
      ∃ s1 : State, s1 = { s with f := s1.f } ∧ s1.flagsAre (decide (v = 0x01)) true (decide (v.toNat % 16 = 0)) s.cf ∧
        (∀ t, s1.writeByte s.hl (v - 1) = .ok t → exec i s = .next t) ∧
        (∀ r, s1.writeByte s.hl (v - 1) = .error r → exec i s = .next { s1 with fault := some r })) ∧
    (i.form = .incAtHl ∨ i.form = .decAtHl → ∀ r, s.readByte s.hl = .error r → exec i s = .next { s with fault := some r })

/-- R188 `DAA`, for all values of A and the flags. -/
def Obligations.DecimalAdjust : Prop :=
  ∀ (s : State) (low high : Bool) (corr : Nat),
    low = (s.hf || (!s.nf && decide (s.a.toNat % 16 > 9))) → high = (s.cf || (!s.nf && decide (s.a.toNat > 0x99))) →
    corr = (if low then 0x06 else 0) + (if high then 0x60 else 0) →
    Encodes .daa [0x27] 1 1 ∧ ∃ t, exec .daa s = .next t ∧ t = { s with a := t.a, f := t.f } ∧
      (t.a.toNat : Int) = (if s.nf then (s.a.toNat : Int) - corr else s.a.toNat + corr) % 256 ∧
      t.flagsAre (decide (t.a = 0)) s.nf false high

/-- What DAA is for (43_alu8.md R188, R195, R196): after ADD, ADC, SUB or SBC of packed BCD operands, `DAA` leaves the decimal result
in A and the decimal carry or borrow in C. -/
def Obligations.DecimalArithmetic : Prop :=
  ∀ (i : Instr) (s t : State) (op : AluOp) (x y cin : Nat), x < 100 → y < 100 → s.a = bcd x →
    aluOperand i s = some (op, .ok (bcd y)) → exec i s = .next t → cin = s.cf.toNat →
    (op = .add ∨ op = .adc → ∀ n, n = x + y + (if op = .adc then cin else 0) →
      ∃ u, exec .daa t = .next u ∧ u.a = bcd (n % 100) ∧ u.cf = decide (100 ≤ n)) ∧
    (op = .sub ∨ op = .sbc → ∀ n, n = y + (if op = .sbc then cin else 0) →
      ∃ u, exec .daa t = .next u ∧ u.a = bcd ((x + 100 - n) % 100) ∧ u.cf = decide (x < n))

/-- R189 `CPL`, R190 `SCF`, R191 `CCF`. -/
def Obligations.CplScfCcf : Prop :=
  ∀ s : State,
    (Encodes .cpl [0x2F] 1 1 ∧ ∃ t, exec .cpl s = .next t ∧ t = { s with a := t.a, f := t.f } ∧ t.a = ~~~s.a ∧
      t.flagsAre s.zf true true s.cf) ∧
    (Encodes .scf [0x37] 1 1 ∧ ∃ t, exec .scf s = .next t ∧ t = { s with f := t.f } ∧ t.flagsAre s.zf false false true) ∧
    (Encodes .ccf [0x3F] 1 1 ∧ ∃ t, exec .ccf s = .next t ∧ t = { s with f := t.f } ∧ t.flagsAre s.zf false false (!s.cf))

/-! ### 16-bit arithmetic (44_alu16.md) -/

/-- R200 `ADD HL,rr` with R119: carries out of bits 11 and 15; Z is cleared, also for a result of 0 (the spec's decision D27). -/
def Obligations.AddHl : Prop :=
  ∀ (i : Instr) (s : State) (p : RegPair) (w : Word), i.form = .addHlRr p →
    w = (match p with | .bc => joinBytes s.b s.c | .de => joinBytes s.d s.e | .hl => joinBytes s.h s.l | .sp => s.sp) →
    Encodes i [0x09 + 16 * p.code] 1 2 ∧ ∃ t, exec i s = .next t ∧ t = { s with h := t.h, l := t.l, f := t.f } ∧
      (joinBytes t.h t.l).toNat = (s.hl.toNat + w.toNat) % 65536 ∧
      t.flagsAre false false (decide (s.hl.toNat % 4096 + w.toNat % 4096 > 0x0FFF)) (decide (s.hl.toNat + w.toNat > 0xFFFF))

/-- R201 `INC rr`, R202 `DEC rr`, with R117, R118: modulo 2^16, no flag. -/
def Obligations.IncDec16 : Prop :=
  ∀ (i : Instr) (s : State) (p : RegPair) (delta w : Word) (bytes : List Byte) (L N : Nat),
    (i.form = .incRr p ∧ delta = 1 ∧ (bytes, L, N) = ([0x03 + 16 * p.code], 1, 2)) ∨
      (i.form = .decRr p ∧ delta = -1 ∧ (bytes, L, N) = ([0x0B + 16 * p.code], 1, 2)) →
    w = (match p with | .bc => joinBytes s.b s.c | .de => joinBytes s.d s.e | .hl => joinBytes s.h s.l | .sp => s.sp) + delta →
    Encodes i bytes L N ∧ exec i s = .next (match p with
      | .bc => { s with b := hiByte w, c := loByte w }
      | .de => { s with d := hiByte w, e := loByte w }
      | .hl => { s with h := hiByte w, l := loByte w }
      | .sp => { s with sp := w })

/-! ### Rotates and shifts (45_rotate_a.md, 48_cb_prefixed.md) -/

/-- R205 `RLCA`, R206 `RRCA`, R207 `RLA`, R208 `RRA`: Z is always cleared. -/
def Obligations.RotateA : Prop :=
  ∀ (i : Instr) (s : State) (op : RotOp) (bytes : List Byte) (L N : Nat),
    (i = .rlca ∧ op = .rlc ∧ (bytes, L, N) = ([0x07], 1, 1)) ∨ (i = .rrca ∧ op = .rrc ∧ (bytes, L, N) = ([0x0F], 1, 1)) ∨
    (i = .rla ∧ op = .rl ∧ (bytes, L, N) = ([0x17], 1, 1)) ∨ (i = .rra ∧ op = .rr ∧ (bytes, L, N) = ([0x1F], 1, 1)) →
    Encodes i bytes L N ∧ ∃ t, exec i s = .next t ∧ t = { s with a := t.a, f := t.f } ∧ t.a.toNat = rotNat op s.a.toNat s.cf.toNat ∧
      t.flagsAre false false false (rotCarry op s.a.toNat)

/-- The prefixed rotates, shifts and SWAP of a register (R236, R238, R240, R242, R244, R246, R248, R250; 56 constructors): Z is
computed. -/
def Obligations.RotateRegister : Prop :=
  ∀ (i : Instr) (s : State) (op : RotOp) (r : Reg8) (v : Byte), i.form = .rotR op r →
    v = BitVec.ofNat 8 (rotNat op (s.getReg r).toNat s.cf.toNat) →
    Encodes i [0xCB, 8 * op.code + r.code] 2 2 ∧
    ∃ t, exec i s = .next t ∧ t = { s.setReg r v with f := t.f } ∧
      t.flagsAre (decide (v = 0)) false false (rotCarry op (s.getReg r).toNat)

/-- The same on the byte at HL (R237, R239, R241, R243, R245, R247, R249, R251): read, write, then the flags, so a fault leaves F
unchanged. -/
def Obligations.RotateAtHl : Prop :=
  ∀ (i : Instr) (s : State) (op : RotOp), i.form = .rotAtHl op →
    Encodes i [0xCB, 8 * op.code + 6] 2 4 ∧
    (∀ r, s.readByte s.hl = .error r → exec i s = .next { s with fault := some r }) ∧
    (∀ u v : Byte, s.readByte s.hl = .ok u → v = BitVec.ofNat 8 (rotNat op u.toNat s.cf.toNat) →
      (∀ s1, s.writeByte s.hl v = .ok s1 → ∃ t, exec i s = .next t ∧ t = { s1 with f := t.f } ∧
        t.flagsAre (decide (v = 0)) false false (rotCarry op u.toNat)) ∧
      (∀ r, s.writeByte s.hl v = .error r → exec i s = .next { s with fault := some r }))

/-- R252 `BIT b,r` (56 constructors), R253 `BIT b,(HL)` (8): Z is the complement of the bit, C is kept, nothing is written back. -/
def Obligations.TestBit : Prop :=
  ∀ (i : Instr) (s : State) (b : Bit3),
    (∀ r, i.form = .bitR b r → Encodes i [0xCB, 0x40 + 8 * b.code + r.code] 2 2 ∧
      ∃ t, exec i s = .next t ∧ t = { s with f := t.f } ∧
        t.flagsAre (decide ((s.getReg r).toNat / 2 ^ b.val % 2 = 0)) false true s.cf) ∧
    (i.form = .bitAtHl b → Encodes i [0xCB, 0x46 + 8 * b.code] 2 3 ∧
      (∀ v, s.readByte s.hl = .ok v → ∃ t, exec i s = .next t ∧ t = { s with f := t.f } ∧
        t.flagsAre (decide (v.toNat / 2 ^ b.val % 2 = 0)) false true s.cf) ∧
      (∀ r, s.readByte s.hl = .error r → exec i s = .next { s with fault := some r }))

/-- R254 `RES b,r`, R256 `SET b,r` (56 constructors each), R255 `RES b,(HL)`, R257 `SET b,(HL)` (8 each): one bit, no flag. -/
def Obligations.ResetSetBit : Prop :=
  ∀ (i : Instr) (s : State) (b : Bit3),
    (∀ r, i.form = .resR b r → Encodes i [0xCB, 0x80 + 8 * b.code + r.code] 2 2 ∧ ∀ n, n = (s.getReg r).toNat →
      exec i s = .next (s.setReg r (BitVec.ofNat 8 (n - 2 ^ b.val * (n / 2 ^ b.val % 2))))) ∧
    (∀ r, i.form = .setR b r → Encodes i [0xCB, 0xC0 + 8 * b.code + r.code] 2 2 ∧ ∀ n, n = (s.getReg r).toNat →
      exec i s = .next (s.setReg r (BitVec.ofNat 8 (n + 2 ^ b.val * (1 - n / 2 ^ b.val % 2))))) ∧
    (∀ (u v : Byte) (bytes : List Byte) (L N : Nat), s.readByte s.hl = .ok u →
      (i.form = .resAtHl b ∧ v = BitVec.ofNat 8 (u.toNat - 2 ^ b.val * (u.toNat / 2 ^ b.val % 2)) ∧
          (bytes, L, N) = ([0xCB, 0x86 + 8 * b.code], 2, 4)) ∨
        (i.form = .setAtHl b ∧ v = BitVec.ofNat 8 (u.toNat + 2 ^ b.val * (1 - u.toNat / 2 ^ b.val % 2)) ∧
          (bytes, L, N) = ([0xCB, 0xC6 + 8 * b.code], 2, 4)) →
      Encodes i bytes L N ∧ (∀ t, s.writeByte s.hl v = .ok t → exec i s = .next t) ∧
      (∀ r, s.writeByte s.hl v = .error r → exec i s = .next { s with fault := some r })) ∧
    (∀ r, s.readByte s.hl = .error r → i.form = .resAtHl b ∨ i.form = .setAtHl b → exec i s = .next { s with fault := some r })

/-! ### Control transfer (46_control.md) -/

/-- R210 `JP a16`, R211 `JP cc,a16`, R212 `JP (HL)`, R213 `JR r8`, R214 `JR cc,r8`, with the conditions of R221. A conditional transfer
has one cycle count, taken or not (the spec's decision D4). -/
def Obligations.Jumps : Prop :=
  ∀ (i : Instr) (s : State),
    (∀ nn, i.form = .jp nn → Encodes i [0xC3, loByte nn, hiByte nn] 3 4 ∧ exec i s = .next { s with pc := nn }) ∧
    (i.form = .jpAtHl → Encodes i [0xE9] 1 1 ∧ exec i s = .next { s with pc := joinBytes s.h s.l }) ∧
    (∀ e, i.form = .jr e → Encodes i [0x18, e] 2 3 ∧ exec i s = .next { s with pc := s.pc + e.signExtend 16 }) ∧
    (∀ (cc : Cond) (taken : Prop),
      (taken ↔ match cc with | .nz => s.zf = false | .z => s.zf = true | .nc => s.cf = false | .c => s.cf = true) →
      (∀ nn, i.form = .jpCc cc nn → Encodes i [0xC2 + 8 * cc.code, loByte nn, hiByte nn] 3 3 ∧
        (taken → exec i s = .next { s with pc := nn }) ∧ (¬taken → exec i s = .next s)) ∧
      (∀ e, i.form = .jrCc cc e → Encodes i [0x20 + 8 * cc.code, e] 2 2 ∧
        (taken → exec i s = .next { s with pc := s.pc + e.signExtend 16 }) ∧ (¬taken → exec i s = .next s)))

/-- R215 `CALL a16`, R216 `CALL cc,a16`, R220 `RST n`: `Push16(PC)`, then the target; a fault leaves SP and PC unchanged; not taken
nothing happens (push order and cycle counts are the spec's decisions D22, D4). -/
def Obligations.Calls : Prop :=
  ∀ (i : Instr) (s : State) (target : Word),
    (∀ cc, i.form = .callCc cc target → Encodes i [0xC4 + 8 * cc.code, loByte target, hiByte target] 3 3 ∧
      (s.cond cc = false → exec i s = .next s)) ∧
    (i.form = .call target → Encodes i [0xCD, loByte target, hiByte target] 3 6) ∧
    (∀ n, i.form = .rst n → Encodes i [0xC7 + 8 * n.code] 1 4) ∧
    (i.form = .call target ∨
        (∃ cc, i.form = .callCc cc target ∧ s.cond cc = true) ∨
        (∃ n, i.form = .rst n ∧ target.toNat = 8 * n.val) →
      (∀ s1 s2, s.writeByte (s.sp - 1) (hiByte s.pc) = .ok s1 → s1.writeByte (s.sp - 2) (loByte s.pc) = .ok s2 →
        exec i s = .next { s2 with sp := s.sp - 2, pc := target }) ∧
      (∀ r, s.writeByte (s.sp - 1) (hiByte s.pc) = .error r → exec i s = .next { s with fault := some r }) ∧
      (∀ s1 r, s.writeByte (s.sp - 1) (hiByte s.pc) = .ok s1 → s1.writeByte (s.sp - 2) (loByte s.pc) = .error r →
        exec i s = .next { s1 with fault := some r }))

/-- R217 `RET`, R218 `RET cc`, R219 `RETI`: `PC <- Pop16()`; `RETI` is `RET` (the spec's decision D11). -/
def Obligations.Returns : Prop :=
  ∀ (i : Instr) (s : State),
    (∀ cc, i.form = .retCc cc → Encodes i [0xC0 + 8 * cc.code] 1 2 ∧ (s.cond cc = false → exec i s = .next s)) ∧
    Encodes .ret [0xC9] 1 4 ∧ Encodes .reti [0xD9] 1 4 ∧
    (i = .ret ∨ i = .reti ∨ (∃ cc, i.form = .retCc cc ∧ s.cond cc = true) →
      (∀ lo hi, s.readByte s.sp = .ok lo → s.readByte (s.sp + 1) = .ok hi →
        exec i s = .next { s with sp := s.sp + 2, pc := joinBytes hi lo }) ∧
      (∀ r, s.readByte s.sp = .error r → exec i s = .next { s with fault := some r }) ∧
      (∀ lo r, s.readByte s.sp = .ok lo → s.readByte (s.sp + 1) = .error r → exec i s = .next { s with fault := some r }))

/-! ### System instructions, the prefix byte and the holes (47_system.md) -/

/-- R225 `NOP`, R226 `STOP`, R227 `HALT`, R228 `DI`, R229 `EI` change nothing (the last four by the spec's decisions D11, D12). -/
def Obligations.NoEffectInstructions : Prop :=
  ∀ s : State,
    (Encodes .nop [0x00] 1 1 ∧ exec .nop s = .next s) ∧
    (∀ n, Encodes (.stop n) [0x10, n] 2 1 ∧ exec (.stop n) s = .next s) ∧
    (Encodes .halt [0x76] 1 1 ∧ exec .halt s = .next s) ∧
    (Encodes .di [0xF3] 1 1 ∧ exec .di s = .next s) ∧
    (Encodes .ei [0xFB] 1 1 ∧ exec .ei s = .next s)

/-- R231, an opcode without a handler: no record and the latch set, nothing else; R230, the prefix byte: its dispatch leaves a record
in flight that cannot complete alone (decisions D10, D2). -/
def Obligations.HolesAndPrefix : Prop :=
  (∀ (i : Instr) (s : State), i.isHole = true → ∃ op : Byte, encode i = [op] ∧ counts i = none ∧
    op ∈ ([0xD3, 0xDB, 0xDD, 0xE3, 0xE4, 0xEB, 0xEC, 0xED, 0xF4, 0xFC, 0xFD] : List Byte) ∧
    exec i s = .next { s with cur := none, fault := some { kind := .notImplemented, info := op.toNat } }) ∧
  (∀ s : State, ∃ r, exec .prefixCb s = .next { s with cur := some r } ∧ r.opcode = 0xCB ∧ r.params = [] ∧ r.fetch = 1 ∧
    r.cycle = 1 ∧ r.complete = false ∧ r.desc = none) ∧
  (∀ (s t : State), s.ready = true → s.readByte s.pc = .ok 0xCB → engineStep none s = .next (.fetching, t) →
    exec .prefixCb { s with pc := s.pc + 1 } = .next t)

/-! ### Frames, for every instruction -/

/-- What an instruction leaves unchanged outside memory: every register but its form's destinations, SP and PC but for the forms that
write them (10_state.md R17, R18), every flag but those of R16, the last record, the breakpoint registers (R31), the image
(20_memory.md R43), and `cur` but for the prefix byte and the holes. -/
def Obligations.RegisterFrame : Prop :=
  ∀ (i : Instr) (s t : State), exec i s = .next t →
    (∀ r, r ∉ formDests i.form → t.getReg r = s.getReg r) ∧
    (formWritesSp i.form = false → t.sp = s.sp) ∧ (formIsTransfer i.form = false → t.pc = s.pc) ∧
    (∀ k, 4 ≤ k → (formFlagMask i.form).getLsbD k = false → t.f.getLsbD k = s.f.getLsbD k) ∧
    (formFlagMask i.form = 0 → t.f = s.f) ∧
    t.last = s.last ∧ t.bpEn = s.bpEn ∧ t.bpAddr = s.bpAddr ∧ t.image = s.image ∧ (i.HasHandler = true → t.cur = s.cur)

/-- What an instruction leaves unchanged in memory: every address but those its form stores to reads as before, in the switchable
window by the bank selected after; if it stores nowhere below 0x8000, the bank controller is unchanged (20_memory.md R48,
R55). -/
def Obligations.MemoryFrame : Prop :=
  ∀ (i : Instr) (s t : State), exec i s = .next t →
    (∀ a : Word, a ∉ formStores i.form s → t.readByte a = ({ s with romBank := t.romBank } : State).readByte a) ∧
    ((∀ a ∈ formStores i.form s, 0x8000 ≤ a.toNat) →
      t.romBank = s.romBank ∧ t.ramBank = s.ramBank ∧ t.mode = s.mode ∧ t.ramEnable = s.ramEnable) ∧
    (formStores i.form s = [] → ∀ a, t.readByte a = s.readByte a)
end

