-- ==== Sys2Proof/Laws/Memory.lean ====
section
/-! SUPPORT. The laws of a sparse byte store: a read after a write, every other key left alone, the canonical form kept, and equal
contents as equal data. -/

namespace Sys2Proof.Machine.Cells

/-- A write leaves every other key alone. -/
theorem read_write_of_ne (m : List Host.Cell) {a b : Nat} (v : Byte) (h : b ≠ a) : read (write m a v) b = read m b := by
  induction m with
  | nil => simp only [write]; split <;> simp [read, Ne.symm h]
  | cons e m ih =>
    obtain ⟨k, w⟩ := e
    simp only [write]
    split
    · split <;> simp [read, Ne.symm h]
    · split
      · rename_i hk
        subst hk
        split <;> simp [read, Ne.symm h]
      · simp only [read]; split
        · rfl
        · exact ih

/-- A key below every key of a canonical store reads as unlisted. -/
theorem read_of_lt {lo hi : Nat} {m : List Host.Cell} (hw : wf lo hi m = true) {a : Nat} (h : a < lo) :
    read m a = Config.unlistedByte := by
  induction m generalizing lo with
  | nil => rfl
  | cons e m ih =>
    obtain ⟨k, v⟩ := e
    simp only [wf, Bool.and_eq_true, decide_eq_true_eq] at hw
    have hka : k ≠ a := by omega
    simp only [read, if_neg hka]
    exact ih hw.2 (by omega)

/-- A weaker lower bound keeps the form. -/
theorem wf_mono {lo lo' hi : Nat} {m : List Host.Cell} (hl : lo' ≤ lo) (hw : wf lo hi m = true) : wf lo' hi m = true := by
  cases m with
  | nil => rfl
  | cons e m =>
    obtain ⟨k, v⟩ := e
    simp only [wf, Bool.and_eq_true, decide_eq_true_eq] at hw ⊢
    exact ⟨⟨⟨by omega, hw.1.1.2⟩, hw.1.2⟩, hw.2⟩

/-- A larger upper bound keeps the form. -/
theorem wf_mono_hi {lo hi hi' : Nat} {m : List Host.Cell} (hh : hi ≤ hi') (hw : wf lo hi m = true) : wf lo hi' m = true := by
  induction m generalizing lo with
  | nil => rfl
  | cons e m ih =>
    obtain ⟨k, v⟩ := e
    simp only [wf, Bool.and_eq_true, decide_eq_true_eq] at hw ⊢
    exact ⟨⟨⟨hw.1.1.1, by omega⟩, hw.1.2⟩, ih hw.2⟩

/-- A read after a write to the same key gives the value written. -/
theorem read_write_self {lo hi : Nat} {m : List Host.Cell} (hw : wf lo hi m = true) (a : Nat) (v : Byte) :
    read (write m a v) a = v := by
  induction m generalizing lo with
  | nil => simp only [write]; split <;> simp_all [read]
  | cons e m ih =>
    obtain ⟨k, w⟩ := e
    have hw' := hw
    simp only [wf, Bool.and_eq_true, decide_eq_true_eq] at hw
    simp only [write]
    split
    · split
      · rename_i ha hv
        have hka : k ≠ a := by omega
        rw [hv, read, if_neg hka]
        exact read_of_lt hw.2 (by omega)
      · simp [read]
    · split
      · rename_i hk
        subst hk
        split
        · rename_i hv
          rw [hv]; exact read_of_lt hw.2 (by omega)
        · simp [read]
      · rename_i hk
        have hka : k ≠ a := by omega
        rw [read, if_neg hka]
        exact ih hw.2

/-- A write inside the bounds keeps the canonical form. -/
theorem wf_write {lo hi : Nat} {m : List Host.Cell} (hw : wf lo hi m = true) {a : Nat} (v : Byte) (hl : lo ≤ a) (hh : a < hi) :
    wf lo hi (write m a v) = true := by
  induction m generalizing lo with
  | nil => simp only [write]; split <;> simp_all [wf]
  | cons e m ih =>
    obtain ⟨k, w⟩ := e
    have hw' := hw
    simp only [wf, Bool.and_eq_true, decide_eq_true_eq] at hw
    simp only [write]
    split
    · split
      · exact hw'
      · simp only [wf, Bool.and_eq_true, decide_eq_true_eq]
        exact ⟨⟨⟨hl, hh⟩, by assumption⟩, ⟨⟨⟨by omega, hw.1.1.2⟩, hw.1.2⟩, hw.2⟩⟩
    · split
      · rename_i hk
        subst hk
        split
        · exact wf_mono (by omega) hw.2
        · simp only [wf, Bool.and_eq_true, decide_eq_true_eq]
          exact ⟨⟨⟨hl, hh⟩, by assumption⟩, hw.2⟩
      · simp only [wf, Bool.and_eq_true, decide_eq_true_eq]
        exact ⟨hw.1, ih hw.2 (by omega)⟩

/-- A list of writes inside the bounds keeps the canonical form. -/
theorem wf_writeAll {lo hi : Nat} (cs : List Host.Cell) {m : List Host.Cell} (hw : wf lo hi m = true)
    (h : ∀ c ∈ cs, lo ≤ c.1 ∧ c.1 < hi) : wf lo hi (writeAll m cs) = true := by
  induction cs generalizing m with
  | nil => exact hw
  | cons c cs ih =>
    obtain ⟨a, v⟩ := c
    have ha := h (a, v) (by simp)
    exact ih (wf_write hw v ha.1 ha.2) fun c hc => h c (by simp [hc])

/-- A list of writes leaves every key that it does not name alone. -/
theorem read_writeAll_of_not_mem (cs : List Host.Cell) (m : List Host.Cell) {b : Nat} (h : ∀ c ∈ cs, c.1 ≠ b) :
    read (writeAll m cs) b = read m b := by
  induction cs generalizing m with
  | nil => rfl
  | cons c cs ih =>
    obtain ⟨a, v⟩ := c
    rw [writeAll, ih _ fun c hc => h c (by simp [hc])]
    exact read_write_of_ne m v (Ne.symm (h (a, v) (by simp)))

/-- After a list of writes to different keys, each key reads as its value. -/
theorem read_writeAll_of_mem {lo hi : Nat} (cs : List Host.Cell) {m : List Host.Cell} (hw : wf lo hi m = true)
    (hk : ∀ c ∈ cs, lo ≤ c.1 ∧ c.1 < hi) (hd : cs.Pairwise fun c d => c.1 ≠ d.1) {c : Host.Cell} (hc : c ∈ cs) :
    read (writeAll m cs) c.1 = c.2 := by
  induction cs generalizing m with
  | nil => cases hc
  | cons e cs ih =>
    obtain ⟨a, v⟩ := e
    have ha := hk (a, v) (by simp)
    rw [List.pairwise_cons] at hd
    rw [writeAll]
    rcases List.mem_cons.1 hc with rfl | hc
    · rw [read_writeAll_of_not_mem cs _ fun d hd' => Ne.symm (hd.1 d hd')]
      exact read_write_self hw a v
    · exact ih (wf_write hw v ha.1 ha.2) (fun d hd' => hk d (by simp [hd'])) hd.2 hc

/-- Canonical stores that read alike are the same data. -/
theorem ext_of_read {lo hi : Nat} {m n : List Host.Cell} (hm : wf lo hi m = true) (hn : wf lo hi n = true)
    (h : ∀ a, read m a = read n a) : m = n := by
  induction m generalizing lo n with
  | nil =>
    cases n with
    | nil => rfl
    | cons e n =>
      obtain ⟨k, v⟩ := e
      simp only [wf, Bool.and_eq_true, decide_eq_true_eq] at hn
      have := h k
      simp only [read, if_true] at this
      exact absurd this.symm hn.1.2
  | cons d m ih =>
    obtain ⟨j, u⟩ := d
    simp only [wf, Bool.and_eq_true, decide_eq_true_eq] at hm
    cases n with
    | nil =>
      have := h j
      simp only [read, if_true] at this
      exact absurd this hm.1.2
    | cons e n =>
      obtain ⟨k, v⟩ := e
      simp only [wf, Bool.and_eq_true, decide_eq_true_eq] at hn
      have hjk : j = k := by
        rcases Nat.lt_trichotomy j k with hlt | heq | hlt
        · have := h j
          simp only [read, if_true, if_neg (show k ≠ j by omega)] at this
          exact absurd (this.trans (read_of_lt hn.2 (by omega))) hm.1.2
        · exact heq
        · have := h k
          simp only [read, if_true, if_neg (show j ≠ k by omega)] at this
          exact absurd (this.symm.trans (read_of_lt hm.2 (by omega))) hn.1.2
      subst hjk
      have huv : u = v := by
        have := h j
        simpa only [read, if_true] using this
      subst huv
      congr 1
      refine ih hm.2 hn.2 fun a => ?_
      by_cases ha : j = a
      · subst ha
        rw [read_of_lt hm.2 (by omega), read_of_lt hn.2 (by omega)]
      · have := h a
        simpa only [read, if_neg ha] using this

end Sys2Proof.Machine.Cells
end

