-- ==== Sys2Proof/Laws/State.lean ====
section
/-! SUPPORT. One lemma per field per update of `State`, so that no proof unfolds a record update, and how reads of a register see
writes of registers. -/

namespace Sys2Proof.Machine

/-! ### `setReg` -/

@[simp] theorem State.setReg_f (s : State) (r : Reg8) (v : Byte) : (s.setReg r v).f = s.f := by cases r <;> rfl
@[simp] theorem State.setReg_sp (s : State) (r : Reg8) (v : Byte) : (s.setReg r v).sp = s.sp := by cases r <;> rfl
@[simp] theorem State.setReg_pc (s : State) (r : Reg8) (v : Byte) : (s.setReg r v).pc = s.pc := by cases r <;> rfl
@[simp] theorem State.setReg_cur (s : State) (r : Reg8) (v : Byte) : (s.setReg r v).cur = s.cur := by cases r <;> rfl
@[simp] theorem State.setReg_last (s : State) (r : Reg8) (v : Byte) : (s.setReg r v).last = s.last := by cases r <;> rfl
@[simp] theorem State.setReg_fault (s : State) (r : Reg8) (v : Byte) : (s.setReg r v).fault = s.fault := by cases r <;> rfl
@[simp] theorem State.setReg_ramEnable (s : State) (r : Reg8) (v : Byte) : (s.setReg r v).ramEnable = s.ramEnable := by cases r <;> rfl
@[simp] theorem State.setReg_romBank (s : State) (r : Reg8) (v : Byte) : (s.setReg r v).romBank = s.romBank := by cases r <;> rfl
@[simp] theorem State.setReg_ramBank (s : State) (r : Reg8) (v : Byte) : (s.setReg r v).ramBank = s.ramBank := by cases r <;> rfl
@[simp] theorem State.setReg_mode (s : State) (r : Reg8) (v : Byte) : (s.setReg r v).mode = s.mode := by cases r <;> rfl
@[simp] theorem State.setReg_bpEn (s : State) (r : Reg8) (v : Byte) : (s.setReg r v).bpEn = s.bpEn := by cases r <;> rfl
@[simp] theorem State.setReg_bpAddr (s : State) (r : Reg8) (v : Byte) : (s.setReg r v).bpAddr = s.bpAddr := by cases r <;> rfl
@[simp] theorem State.setReg_ram (s : State) (r : Reg8) (v : Byte) : (s.setReg r v).ram = s.ram := by cases r <;> rfl
@[simp] theorem State.setReg_image (s : State) (r : Reg8) (v : Byte) : (s.setReg r v).image = s.image := by cases r <;> rfl

@[simp] theorem State.getReg_setReg_self (s : State) (r : Reg8) (v : Byte) : (s.setReg r v).getReg r = v := by cases r <;> rfl

theorem State.getReg_setReg_of_ne (s : State) {r q : Reg8} (v : Byte) (h : q ≠ r) : (s.setReg r v).getReg q = s.getReg q := by
  cases r <;> cases q <;> first | rfl | exact absurd rfl h

@[simp] theorem State.setReg_getReg (s : State) (r : Reg8) : s.setReg r (s.getReg r) = s := by cases r <;> rfl

/-! ### `writeF`, `setFlags`, `putFlags` -/

@[simp] theorem State.writeF_a (s : State) (v : Byte) : (s.writeF v).a = s.a := rfl
@[simp] theorem State.writeF_b (s : State) (v : Byte) : (s.writeF v).b = s.b := rfl
@[simp] theorem State.writeF_c (s : State) (v : Byte) : (s.writeF v).c = s.c := rfl
@[simp] theorem State.writeF_d (s : State) (v : Byte) : (s.writeF v).d = s.d := rfl
@[simp] theorem State.writeF_e (s : State) (v : Byte) : (s.writeF v).e = s.e := rfl
@[simp] theorem State.writeF_h (s : State) (v : Byte) : (s.writeF v).h = s.h := rfl
@[simp] theorem State.writeF_l (s : State) (v : Byte) : (s.writeF v).l = s.l := rfl
@[simp] theorem State.writeF_sp (s : State) (v : Byte) : (s.writeF v).sp = s.sp := rfl
@[simp] theorem State.writeF_pc (s : State) (v : Byte) : (s.writeF v).pc = s.pc := rfl
@[simp] theorem State.writeF_cur (s : State) (v : Byte) : (s.writeF v).cur = s.cur := rfl
@[simp] theorem State.writeF_last (s : State) (v : Byte) : (s.writeF v).last = s.last := rfl
@[simp] theorem State.writeF_fault (s : State) (v : Byte) : (s.writeF v).fault = s.fault := rfl
@[simp] theorem State.writeF_ramEnable (s : State) (v : Byte) : (s.writeF v).ramEnable = s.ramEnable := rfl
@[simp] theorem State.writeF_romBank (s : State) (v : Byte) : (s.writeF v).romBank = s.romBank := rfl
@[simp] theorem State.writeF_ramBank (s : State) (v : Byte) : (s.writeF v).ramBank = s.ramBank := rfl
@[simp] theorem State.writeF_mode (s : State) (v : Byte) : (s.writeF v).mode = s.mode := rfl
@[simp] theorem State.writeF_bpEn (s : State) (v : Byte) : (s.writeF v).bpEn = s.bpEn := rfl
@[simp] theorem State.writeF_bpAddr (s : State) (v : Byte) : (s.writeF v).bpAddr = s.bpAddr := rfl
@[simp] theorem State.writeF_ram (s : State) (v : Byte) : (s.writeF v).ram = s.ram := rfl
@[simp] theorem State.writeF_image (s : State) (v : Byte) : (s.writeF v).image = s.image := rfl

@[simp] theorem State.writeF_f (s : State) (v : Byte) : (s.writeF v).f = v &&& 0xF0 := rfl
@[simp] theorem State.setFlags_a (s : State) (z n h c : Bool) : (s.setFlags z n h c).a = s.a := rfl
@[simp] theorem State.setFlags_b (s : State) (z n h c : Bool) : (s.setFlags z n h c).b = s.b := rfl
@[simp] theorem State.setFlags_c (s : State) (z n h c : Bool) : (s.setFlags z n h c).c = s.c := rfl
@[simp] theorem State.setFlags_d (s : State) (z n h c : Bool) : (s.setFlags z n h c).d = s.d := rfl
@[simp] theorem State.setFlags_e (s : State) (z n h c : Bool) : (s.setFlags z n h c).e = s.e := rfl
@[simp] theorem State.setFlags_h (s : State) (z n h c : Bool) : (s.setFlags z n h c).h = s.h := rfl
@[simp] theorem State.setFlags_l (s : State) (z n h c : Bool) : (s.setFlags z n h c).l = s.l := rfl
@[simp] theorem State.setFlags_sp (s : State) (z n h c : Bool) : (s.setFlags z n h c).sp = s.sp := rfl
@[simp] theorem State.setFlags_pc (s : State) (z n h c : Bool) : (s.setFlags z n h c).pc = s.pc := rfl
@[simp] theorem State.setFlags_cur (s : State) (z n h c : Bool) : (s.setFlags z n h c).cur = s.cur := rfl
@[simp] theorem State.setFlags_last (s : State) (z n h c : Bool) : (s.setFlags z n h c).last = s.last := rfl
@[simp] theorem State.setFlags_fault (s : State) (z n h c : Bool) : (s.setFlags z n h c).fault = s.fault := rfl
@[simp] theorem State.setFlags_ramEnable (s : State) (z n h c : Bool) : (s.setFlags z n h c).ramEnable = s.ramEnable := rfl
@[simp] theorem State.setFlags_romBank (s : State) (z n h c : Bool) : (s.setFlags z n h c).romBank = s.romBank := rfl
@[simp] theorem State.setFlags_ramBank (s : State) (z n h c : Bool) : (s.setFlags z n h c).ramBank = s.ramBank := rfl
@[simp] theorem State.setFlags_mode (s : State) (z n h c : Bool) : (s.setFlags z n h c).mode = s.mode := rfl
@[simp] theorem State.setFlags_bpEn (s : State) (z n h c : Bool) : (s.setFlags z n h c).bpEn = s.bpEn := rfl
@[simp] theorem State.setFlags_bpAddr (s : State) (z n h c : Bool) : (s.setFlags z n h c).bpAddr = s.bpAddr := rfl
@[simp] theorem State.setFlags_ram (s : State) (z n h c : Bool) : (s.setFlags z n h c).ram = s.ram := rfl
@[simp] theorem State.setFlags_image (s : State) (z n h c : Bool) : (s.setFlags z n h c).image = s.image := rfl
@[simp] theorem State.putFlags_a {w : Nat} (s : State) (o : Flagged w) : (s.putFlags o).a = s.a := rfl
@[simp] theorem State.putFlags_b {w : Nat} (s : State) (o : Flagged w) : (s.putFlags o).b = s.b := rfl
@[simp] theorem State.putFlags_c {w : Nat} (s : State) (o : Flagged w) : (s.putFlags o).c = s.c := rfl
@[simp] theorem State.putFlags_d {w : Nat} (s : State) (o : Flagged w) : (s.putFlags o).d = s.d := rfl
@[simp] theorem State.putFlags_e {w : Nat} (s : State) (o : Flagged w) : (s.putFlags o).e = s.e := rfl
@[simp] theorem State.putFlags_h {w : Nat} (s : State) (o : Flagged w) : (s.putFlags o).h = s.h := rfl
@[simp] theorem State.putFlags_l {w : Nat} (s : State) (o : Flagged w) : (s.putFlags o).l = s.l := rfl
@[simp] theorem State.putFlags_sp {w : Nat} (s : State) (o : Flagged w) : (s.putFlags o).sp = s.sp := rfl
@[simp] theorem State.putFlags_pc {w : Nat} (s : State) (o : Flagged w) : (s.putFlags o).pc = s.pc := rfl
@[simp] theorem State.putFlags_cur {w : Nat} (s : State) (o : Flagged w) : (s.putFlags o).cur = s.cur := rfl
@[simp] theorem State.putFlags_last {w : Nat} (s : State) (o : Flagged w) : (s.putFlags o).last = s.last := rfl
@[simp] theorem State.putFlags_fault {w : Nat} (s : State) (o : Flagged w) : (s.putFlags o).fault = s.fault := rfl
@[simp] theorem State.putFlags_ramEnable {w : Nat} (s : State) (o : Flagged w) : (s.putFlags o).ramEnable = s.ramEnable := rfl
@[simp] theorem State.putFlags_romBank {w : Nat} (s : State) (o : Flagged w) : (s.putFlags o).romBank = s.romBank := rfl
@[simp] theorem State.putFlags_ramBank {w : Nat} (s : State) (o : Flagged w) : (s.putFlags o).ramBank = s.ramBank := rfl
@[simp] theorem State.putFlags_mode {w : Nat} (s : State) (o : Flagged w) : (s.putFlags o).mode = s.mode := rfl
@[simp] theorem State.putFlags_bpEn {w : Nat} (s : State) (o : Flagged w) : (s.putFlags o).bpEn = s.bpEn := rfl
@[simp] theorem State.putFlags_bpAddr {w : Nat} (s : State) (o : Flagged w) : (s.putFlags o).bpAddr = s.bpAddr := rfl
@[simp] theorem State.putFlags_ram {w : Nat} (s : State) (o : Flagged w) : (s.putFlags o).ram = s.ram := rfl
@[simp] theorem State.putFlags_image {w : Nat} (s : State) (o : Flagged w) : (s.putFlags o).image = s.image := rfl
@[simp] theorem State.setFlags_f (s : State) (z n h c : Bool) : (s.setFlags z n h c).f = packF z n h c := by
  cases z <;> cases n <;> cases h <;> cases c <;> rfl
@[simp] theorem State.putFlags_f {w : Nat} (s : State) (o : Flagged w) : (s.putFlags o).f = packF o.z o.n o.h o.c :=
  State.setFlags_f s o.z o.n o.h o.c
theorem packF_bits (z n h c : Bool) : (packF z n h c).getLsbD 7 = z ∧ (packF z n h c).getLsbD 6 = n ∧
    (packF z n h c).getLsbD 5 = h ∧ (packF z n h c).getLsbD 4 = c := by
  revert z n h c; decide
@[simp] theorem State.setFlags_zf (s : State) (z n h c : Bool) : (s.setFlags z n h c).zf = z := by
  unfold State.zf; rw [State.setFlags_f]; exact (packF_bits z n h c).1
@[simp] theorem State.setFlags_nf (s : State) (z n h c : Bool) : (s.setFlags z n h c).nf = n := by
  unfold State.nf; rw [State.setFlags_f]; exact (packF_bits z n h c).2.1
@[simp] theorem State.setFlags_hf (s : State) (z n h c : Bool) : (s.setFlags z n h c).hf = h := by
  unfold State.hf; rw [State.setFlags_f]; exact (packF_bits z n h c).2.2.1
@[simp] theorem State.setFlags_cf (s : State) (z n h c : Bool) : (s.setFlags z n h c).cf = c := by
  unfold State.cf; rw [State.setFlags_f]; exact (packF_bits z n h c).2.2.2
@[simp] theorem State.putFlags_zf {w : Nat} (s : State) (o : Flagged w) : (s.putFlags o).zf = o.z := State.setFlags_zf ..
@[simp] theorem State.putFlags_nf {w : Nat} (s : State) (o : Flagged w) : (s.putFlags o).nf = o.n := State.setFlags_nf ..
@[simp] theorem State.putFlags_hf {w : Nat} (s : State) (o : Flagged w) : (s.putFlags o).hf = o.h := State.setFlags_hf ..
@[simp] theorem State.putFlags_cf {w : Nat} (s : State) (o : Flagged w) : (s.putFlags o).cf = o.c := State.setFlags_cf ..
@[simp] theorem State.getReg_putFlags {w : Nat} (s : State) (o : Flagged w) (r : Reg8) : (s.putFlags o).getReg r = s.getReg r := by
  cases r <;> rfl
@[simp] theorem State.getReg_setFlags (s : State) (z n h c : Bool) (r : Reg8) : (s.setFlags z n h c).getReg r = s.getReg r := by
  cases r <;> rfl

/-- `F[3:0]` is zero after every flag write (10_state.md R13). -/
theorem packF_low (z n h c : Bool) : packF z n h c &&& 0x0F = 0 := by
  cases z <;> cases n <;> cases h <;> cases c <;> rfl

/-- `F[3:0]` is zero after every write of `F` as a byte (10_state.md R13). -/
theorem writeF_low (v : Byte) : v &&& 0xF0 &&& 0x0F = 0 := by
  have h : (0xF0 &&& 0x0F : Byte) = 0 := by decide
  rw [BitVec.and_assoc, h]; exact BitVec.and_zero

/-! ### The pairs -/

@[simp] theorem State.setBc_a (s : State) (w : Word) : (s.setBc w).a = s.a := rfl
@[simp] theorem State.setBc_d (s : State) (w : Word) : (s.setBc w).d = s.d := rfl
@[simp] theorem State.setBc_e (s : State) (w : Word) : (s.setBc w).e = s.e := rfl
@[simp] theorem State.setBc_h (s : State) (w : Word) : (s.setBc w).h = s.h := rfl
@[simp] theorem State.setBc_l (s : State) (w : Word) : (s.setBc w).l = s.l := rfl
@[simp] theorem State.setBc_f (s : State) (w : Word) : (s.setBc w).f = s.f := rfl
@[simp] theorem State.setBc_sp (s : State) (w : Word) : (s.setBc w).sp = s.sp := rfl
@[simp] theorem State.setBc_pc (s : State) (w : Word) : (s.setBc w).pc = s.pc := rfl
@[simp] theorem State.setBc_cur (s : State) (w : Word) : (s.setBc w).cur = s.cur := rfl
@[simp] theorem State.setBc_last (s : State) (w : Word) : (s.setBc w).last = s.last := rfl
@[simp] theorem State.setBc_fault (s : State) (w : Word) : (s.setBc w).fault = s.fault := rfl
@[simp] theorem State.setBc_ramEnable (s : State) (w : Word) : (s.setBc w).ramEnable = s.ramEnable := rfl
@[simp] theorem State.setBc_romBank (s : State) (w : Word) : (s.setBc w).romBank = s.romBank := rfl
@[simp] theorem State.setBc_ramBank (s : State) (w : Word) : (s.setBc w).ramBank = s.ramBank := rfl
@[simp] theorem State.setBc_mode (s : State) (w : Word) : (s.setBc w).mode = s.mode := rfl
@[simp] theorem State.setBc_bpEn (s : State) (w : Word) : (s.setBc w).bpEn = s.bpEn := rfl
@[simp] theorem State.setBc_bpAddr (s : State) (w : Word) : (s.setBc w).bpAddr = s.bpAddr := rfl
@[simp] theorem State.setBc_ram (s : State) (w : Word) : (s.setBc w).ram = s.ram := rfl
@[simp] theorem State.setBc_image (s : State) (w : Word) : (s.setBc w).image = s.image := rfl
@[simp] theorem State.setBc_b (s : State) (w : Word) : (s.setBc w).b = hiByte w := rfl
@[simp] theorem State.setBc_c (s : State) (w : Word) : (s.setBc w).c = loByte w := rfl
@[simp] theorem State.setDe_a (s : State) (w : Word) : (s.setDe w).a = s.a := rfl
@[simp] theorem State.setDe_b (s : State) (w : Word) : (s.setDe w).b = s.b := rfl
@[simp] theorem State.setDe_c (s : State) (w : Word) : (s.setDe w).c = s.c := rfl
@[simp] theorem State.setDe_h (s : State) (w : Word) : (s.setDe w).h = s.h := rfl
@[simp] theorem State.setDe_l (s : State) (w : Word) : (s.setDe w).l = s.l := rfl
@[simp] theorem State.setDe_f (s : State) (w : Word) : (s.setDe w).f = s.f := rfl
@[simp] theorem State.setDe_sp (s : State) (w : Word) : (s.setDe w).sp = s.sp := rfl
@[simp] theorem State.setDe_pc (s : State) (w : Word) : (s.setDe w).pc = s.pc := rfl
@[simp] theorem State.setDe_cur (s : State) (w : Word) : (s.setDe w).cur = s.cur := rfl
@[simp] theorem State.setDe_last (s : State) (w : Word) : (s.setDe w).last = s.last := rfl
@[simp] theorem State.setDe_fault (s : State) (w : Word) : (s.setDe w).fault = s.fault := rfl
@[simp] theorem State.setDe_ramEnable (s : State) (w : Word) : (s.setDe w).ramEnable = s.ramEnable := rfl
@[simp] theorem State.setDe_romBank (s : State) (w : Word) : (s.setDe w).romBank = s.romBank := rfl
@[simp] theorem State.setDe_ramBank (s : State) (w : Word) : (s.setDe w).ramBank = s.ramBank := rfl
@[simp] theorem State.setDe_mode (s : State) (w : Word) : (s.setDe w).mode = s.mode := rfl
@[simp] theorem State.setDe_bpEn (s : State) (w : Word) : (s.setDe w).bpEn = s.bpEn := rfl
@[simp] theorem State.setDe_bpAddr (s : State) (w : Word) : (s.setDe w).bpAddr = s.bpAddr := rfl
@[simp] theorem State.setDe_ram (s : State) (w : Word) : (s.setDe w).ram = s.ram := rfl
@[simp] theorem State.setDe_image (s : State) (w : Word) : (s.setDe w).image = s.image := rfl
@[simp] theorem State.setDe_d (s : State) (w : Word) : (s.setDe w).d = hiByte w := rfl
@[simp] theorem State.setDe_e (s : State) (w : Word) : (s.setDe w).e = loByte w := rfl
@[simp] theorem State.setHl_a (s : State) (w : Word) : (s.setHl w).a = s.a := rfl
@[simp] theorem State.setHl_b (s : State) (w : Word) : (s.setHl w).b = s.b := rfl
@[simp] theorem State.setHl_c (s : State) (w : Word) : (s.setHl w).c = s.c := rfl
@[simp] theorem State.setHl_d (s : State) (w : Word) : (s.setHl w).d = s.d := rfl
@[simp] theorem State.setHl_e (s : State) (w : Word) : (s.setHl w).e = s.e := rfl
@[simp] theorem State.setHl_f (s : State) (w : Word) : (s.setHl w).f = s.f := rfl
@[simp] theorem State.setHl_sp (s : State) (w : Word) : (s.setHl w).sp = s.sp := rfl
@[simp] theorem State.setHl_pc (s : State) (w : Word) : (s.setHl w).pc = s.pc := rfl
@[simp] theorem State.setHl_cur (s : State) (w : Word) : (s.setHl w).cur = s.cur := rfl
@[simp] theorem State.setHl_last (s : State) (w : Word) : (s.setHl w).last = s.last := rfl
@[simp] theorem State.setHl_fault (s : State) (w : Word) : (s.setHl w).fault = s.fault := rfl
@[simp] theorem State.setHl_ramEnable (s : State) (w : Word) : (s.setHl w).ramEnable = s.ramEnable := rfl
@[simp] theorem State.setHl_romBank (s : State) (w : Word) : (s.setHl w).romBank = s.romBank := rfl
@[simp] theorem State.setHl_ramBank (s : State) (w : Word) : (s.setHl w).ramBank = s.ramBank := rfl
@[simp] theorem State.setHl_mode (s : State) (w : Word) : (s.setHl w).mode = s.mode := rfl
@[simp] theorem State.setHl_bpEn (s : State) (w : Word) : (s.setHl w).bpEn = s.bpEn := rfl
@[simp] theorem State.setHl_bpAddr (s : State) (w : Word) : (s.setHl w).bpAddr = s.bpAddr := rfl
@[simp] theorem State.setHl_ram (s : State) (w : Word) : (s.setHl w).ram = s.ram := rfl
@[simp] theorem State.setHl_image (s : State) (w : Word) : (s.setHl w).image = s.image := rfl
@[simp] theorem State.setHl_h (s : State) (w : Word) : (s.setHl w).h = hiByte w := rfl
@[simp] theorem State.setHl_l (s : State) (w : Word) : (s.setHl w).l = loByte w := rfl
@[simp] theorem State.setAf_b (s : State) (w : Word) : (s.setAf w).b = s.b := rfl
@[simp] theorem State.setAf_c (s : State) (w : Word) : (s.setAf w).c = s.c := rfl
@[simp] theorem State.setAf_d (s : State) (w : Word) : (s.setAf w).d = s.d := rfl
@[simp] theorem State.setAf_e (s : State) (w : Word) : (s.setAf w).e = s.e := rfl
@[simp] theorem State.setAf_h (s : State) (w : Word) : (s.setAf w).h = s.h := rfl
@[simp] theorem State.setAf_l (s : State) (w : Word) : (s.setAf w).l = s.l := rfl
@[simp] theorem State.setAf_sp (s : State) (w : Word) : (s.setAf w).sp = s.sp := rfl
@[simp] theorem State.setAf_pc (s : State) (w : Word) : (s.setAf w).pc = s.pc := rfl
@[simp] theorem State.setAf_cur (s : State) (w : Word) : (s.setAf w).cur = s.cur := rfl
@[simp] theorem State.setAf_last (s : State) (w : Word) : (s.setAf w).last = s.last := rfl
@[simp] theorem State.setAf_fault (s : State) (w : Word) : (s.setAf w).fault = s.fault := rfl
@[simp] theorem State.setAf_ramEnable (s : State) (w : Word) : (s.setAf w).ramEnable = s.ramEnable := rfl
@[simp] theorem State.setAf_romBank (s : State) (w : Word) : (s.setAf w).romBank = s.romBank := rfl
@[simp] theorem State.setAf_ramBank (s : State) (w : Word) : (s.setAf w).ramBank = s.ramBank := rfl
@[simp] theorem State.setAf_mode (s : State) (w : Word) : (s.setAf w).mode = s.mode := rfl
@[simp] theorem State.setAf_bpEn (s : State) (w : Word) : (s.setAf w).bpEn = s.bpEn := rfl
@[simp] theorem State.setAf_bpAddr (s : State) (w : Word) : (s.setAf w).bpAddr = s.bpAddr := rfl
@[simp] theorem State.setAf_ram (s : State) (w : Word) : (s.setAf w).ram = s.ram := rfl
@[simp] theorem State.setAf_image (s : State) (w : Word) : (s.setAf w).image = s.image := rfl
@[simp] theorem State.setAf_a (s : State) (w : Word) : (s.setAf w).a = hiByte w := rfl
@[simp] theorem State.setAf_f (s : State) (w : Word) : (s.setAf w).f = loByte w &&& 0xF0 := rfl

/-! ### `setPair`, `setStackPair` -/

@[simp] theorem State.setPair_f (s : State) (p : RegPair) (w : Word) : (s.setPair p w).f = s.f := by cases p <;> rfl
@[simp] theorem State.setPair_pc (s : State) (p : RegPair) (w : Word) : (s.setPair p w).pc = s.pc := by cases p <;> rfl
@[simp] theorem State.setPair_cur (s : State) (p : RegPair) (w : Word) : (s.setPair p w).cur = s.cur := by cases p <;> rfl
@[simp] theorem State.setPair_last (s : State) (p : RegPair) (w : Word) : (s.setPair p w).last = s.last := by cases p <;> rfl
@[simp] theorem State.setPair_fault (s : State) (p : RegPair) (w : Word) : (s.setPair p w).fault = s.fault := by cases p <;> rfl
@[simp] theorem State.setPair_ramEnable (s : State) (p : RegPair) (w : Word) : (s.setPair p w).ramEnable = s.ramEnable := by cases p <;> rfl
@[simp] theorem State.setPair_romBank (s : State) (p : RegPair) (w : Word) : (s.setPair p w).romBank = s.romBank := by cases p <;> rfl
@[simp] theorem State.setPair_ramBank (s : State) (p : RegPair) (w : Word) : (s.setPair p w).ramBank = s.ramBank := by cases p <;> rfl
@[simp] theorem State.setPair_mode (s : State) (p : RegPair) (w : Word) : (s.setPair p w).mode = s.mode := by cases p <;> rfl
@[simp] theorem State.setPair_bpEn (s : State) (p : RegPair) (w : Word) : (s.setPair p w).bpEn = s.bpEn := by cases p <;> rfl
@[simp] theorem State.setPair_bpAddr (s : State) (p : RegPair) (w : Word) : (s.setPair p w).bpAddr = s.bpAddr := by cases p <;> rfl
@[simp] theorem State.setPair_ram (s : State) (p : RegPair) (w : Word) : (s.setPair p w).ram = s.ram := by cases p <;> rfl
@[simp] theorem State.setPair_image (s : State) (p : RegPair) (w : Word) : (s.setPair p w).image = s.image := by cases p <;> rfl

@[simp] theorem State.setStackPair_sp (s : State) (p : StackPair) (w : Word) : (s.setStackPair p w).sp = s.sp := by cases p <;> rfl
@[simp] theorem State.setStackPair_pc (s : State) (p : StackPair) (w : Word) : (s.setStackPair p w).pc = s.pc := by cases p <;> rfl
@[simp] theorem State.setStackPair_cur (s : State) (p : StackPair) (w : Word) : (s.setStackPair p w).cur = s.cur := by cases p <;> rfl
@[simp] theorem State.setStackPair_last (s : State) (p : StackPair) (w : Word) : (s.setStackPair p w).last = s.last := by cases p <;> rfl
@[simp] theorem State.setStackPair_fault (s : State) (p : StackPair) (w : Word) : (s.setStackPair p w).fault = s.fault := by cases p <;> rfl
@[simp] theorem State.setStackPair_ramEnable (s : State) (p : StackPair) (w : Word) : (s.setStackPair p w).ramEnable = s.ramEnable := by cases p <;> rfl
@[simp] theorem State.setStackPair_romBank (s : State) (p : StackPair) (w : Word) : (s.setStackPair p w).romBank = s.romBank := by cases p <;> rfl
@[simp] theorem State.setStackPair_ramBank (s : State) (p : StackPair) (w : Word) : (s.setStackPair p w).ramBank = s.ramBank := by cases p <;> rfl
@[simp] theorem State.setStackPair_mode (s : State) (p : StackPair) (w : Word) : (s.setStackPair p w).mode = s.mode := by cases p <;> rfl
@[simp] theorem State.setStackPair_bpEn (s : State) (p : StackPair) (w : Word) : (s.setStackPair p w).bpEn = s.bpEn := by cases p <;> rfl
@[simp] theorem State.setStackPair_bpAddr (s : State) (p : StackPair) (w : Word) : (s.setStackPair p w).bpAddr = s.bpAddr := by cases p <;> rfl
@[simp] theorem State.setStackPair_ram (s : State) (p : StackPair) (w : Word) : (s.setStackPair p w).ram = s.ram := by cases p <;> rfl
@[simp] theorem State.setStackPair_image (s : State) (p : StackPair) (w : Word) : (s.setStackPair p w).image = s.image := by cases p <;> rfl

/-! ### `jump`, `record`, `finish` -/

@[simp] theorem State.jump_a (s : State) (w : Word) : (s.jump w).a = s.a := rfl
@[simp] theorem State.jump_b (s : State) (w : Word) : (s.jump w).b = s.b := rfl
@[simp] theorem State.jump_c (s : State) (w : Word) : (s.jump w).c = s.c := rfl
@[simp] theorem State.jump_d (s : State) (w : Word) : (s.jump w).d = s.d := rfl
@[simp] theorem State.jump_e (s : State) (w : Word) : (s.jump w).e = s.e := rfl
@[simp] theorem State.jump_h (s : State) (w : Word) : (s.jump w).h = s.h := rfl
@[simp] theorem State.jump_l (s : State) (w : Word) : (s.jump w).l = s.l := rfl
@[simp] theorem State.jump_f (s : State) (w : Word) : (s.jump w).f = s.f := rfl
@[simp] theorem State.jump_sp (s : State) (w : Word) : (s.jump w).sp = s.sp := rfl
@[simp] theorem State.jump_cur (s : State) (w : Word) : (s.jump w).cur = s.cur := rfl
@[simp] theorem State.jump_last (s : State) (w : Word) : (s.jump w).last = s.last := rfl
@[simp] theorem State.jump_fault (s : State) (w : Word) : (s.jump w).fault = s.fault := rfl
@[simp] theorem State.jump_ramEnable (s : State) (w : Word) : (s.jump w).ramEnable = s.ramEnable := rfl
@[simp] theorem State.jump_romBank (s : State) (w : Word) : (s.jump w).romBank = s.romBank := rfl
@[simp] theorem State.jump_ramBank (s : State) (w : Word) : (s.jump w).ramBank = s.ramBank := rfl
@[simp] theorem State.jump_mode (s : State) (w : Word) : (s.jump w).mode = s.mode := rfl
@[simp] theorem State.jump_bpEn (s : State) (w : Word) : (s.jump w).bpEn = s.bpEn := rfl
@[simp] theorem State.jump_bpAddr (s : State) (w : Word) : (s.jump w).bpAddr = s.bpAddr := rfl
@[simp] theorem State.jump_ram (s : State) (w : Word) : (s.jump w).ram = s.ram := rfl
@[simp] theorem State.jump_image (s : State) (w : Word) : (s.jump w).image = s.image := rfl

@[simp] theorem State.jump_pc (s : State) (w : Word) : (s.jump w).pc = w := rfl
@[simp] theorem State.record_a (s : State) (op : Byte) (ps : List Byte) (m n : Nat) : (s.record op ps m n).a = s.a := rfl
@[simp] theorem State.record_b (s : State) (op : Byte) (ps : List Byte) (m n : Nat) : (s.record op ps m n).b = s.b := rfl
@[simp] theorem State.record_c (s : State) (op : Byte) (ps : List Byte) (m n : Nat) : (s.record op ps m n).c = s.c := rfl
@[simp] theorem State.record_d (s : State) (op : Byte) (ps : List Byte) (m n : Nat) : (s.record op ps m n).d = s.d := rfl
@[simp] theorem State.record_e (s : State) (op : Byte) (ps : List Byte) (m n : Nat) : (s.record op ps m n).e = s.e := rfl
@[simp] theorem State.record_h (s : State) (op : Byte) (ps : List Byte) (m n : Nat) : (s.record op ps m n).h = s.h := rfl
@[simp] theorem State.record_l (s : State) (op : Byte) (ps : List Byte) (m n : Nat) : (s.record op ps m n).l = s.l := rfl
@[simp] theorem State.record_f (s : State) (op : Byte) (ps : List Byte) (m n : Nat) : (s.record op ps m n).f = s.f := rfl
@[simp] theorem State.record_sp (s : State) (op : Byte) (ps : List Byte) (m n : Nat) : (s.record op ps m n).sp = s.sp := rfl
@[simp] theorem State.record_pc (s : State) (op : Byte) (ps : List Byte) (m n : Nat) : (s.record op ps m n).pc = s.pc := rfl
@[simp] theorem State.record_last (s : State) (op : Byte) (ps : List Byte) (m n : Nat) : (s.record op ps m n).last = s.last := rfl
@[simp] theorem State.record_fault (s : State) (op : Byte) (ps : List Byte) (m n : Nat) : (s.record op ps m n).fault = s.fault := rfl
@[simp] theorem State.record_ramEnable (s : State) (op : Byte) (ps : List Byte) (m n : Nat) : (s.record op ps m n).ramEnable = s.ramEnable := rfl
@[simp] theorem State.record_romBank (s : State) (op : Byte) (ps : List Byte) (m n : Nat) : (s.record op ps m n).romBank = s.romBank := rfl
@[simp] theorem State.record_ramBank (s : State) (op : Byte) (ps : List Byte) (m n : Nat) : (s.record op ps m n).ramBank = s.ramBank := rfl
@[simp] theorem State.record_mode (s : State) (op : Byte) (ps : List Byte) (m n : Nat) : (s.record op ps m n).mode = s.mode := rfl
@[simp] theorem State.record_bpEn (s : State) (op : Byte) (ps : List Byte) (m n : Nat) : (s.record op ps m n).bpEn = s.bpEn := rfl
@[simp] theorem State.record_bpAddr (s : State) (op : Byte) (ps : List Byte) (m n : Nat) : (s.record op ps m n).bpAddr = s.bpAddr := rfl
@[simp] theorem State.record_ram (s : State) (op : Byte) (ps : List Byte) (m n : Nat) : (s.record op ps m n).ram = s.ram := rfl
@[simp] theorem State.record_image (s : State) (op : Byte) (ps : List Byte) (m n : Nat) : (s.record op ps m n).image = s.image := rfl
@[simp] theorem State.record_cur (s : State) (op : Byte) (ps : List Byte) (m n : Nat) :
    (s.record op ps m n).cur = some { opcode := op, params := ps, fetch := m, cycle := n, complete := false } := rfl
@[simp] theorem State.finish_a (s : State) : s.finish.a = s.a := by unfold State.finish; split <;> rfl
@[simp] theorem State.finish_b (s : State) : s.finish.b = s.b := by unfold State.finish; split <;> rfl
@[simp] theorem State.finish_c (s : State) : s.finish.c = s.c := by unfold State.finish; split <;> rfl
@[simp] theorem State.finish_d (s : State) : s.finish.d = s.d := by unfold State.finish; split <;> rfl
@[simp] theorem State.finish_e (s : State) : s.finish.e = s.e := by unfold State.finish; split <;> rfl
@[simp] theorem State.finish_h (s : State) : s.finish.h = s.h := by unfold State.finish; split <;> rfl
@[simp] theorem State.finish_l (s : State) : s.finish.l = s.l := by unfold State.finish; split <;> rfl
@[simp] theorem State.finish_f (s : State) : s.finish.f = s.f := by unfold State.finish; split <;> rfl
@[simp] theorem State.finish_sp (s : State) : s.finish.sp = s.sp := by unfold State.finish; split <;> rfl
@[simp] theorem State.finish_pc (s : State) : s.finish.pc = s.pc := by unfold State.finish; split <;> rfl
@[simp] theorem State.finish_fault (s : State) : s.finish.fault = s.fault := by unfold State.finish; split <;> rfl
@[simp] theorem State.finish_ramEnable (s : State) : s.finish.ramEnable = s.ramEnable := by unfold State.finish; split <;> rfl
@[simp] theorem State.finish_romBank (s : State) : s.finish.romBank = s.romBank := by unfold State.finish; split <;> rfl
@[simp] theorem State.finish_ramBank (s : State) : s.finish.ramBank = s.ramBank := by unfold State.finish; split <;> rfl
@[simp] theorem State.finish_mode (s : State) : s.finish.mode = s.mode := by unfold State.finish; split <;> rfl
@[simp] theorem State.finish_bpEn (s : State) : s.finish.bpEn = s.bpEn := by unfold State.finish; split <;> rfl
@[simp] theorem State.finish_bpAddr (s : State) : s.finish.bpAddr = s.bpAddr := by unfold State.finish; split <;> rfl
@[simp] theorem State.finish_ram (s : State) : s.finish.ram = s.ram := by unfold State.finish; split <;> rfl
@[simp] theorem State.finish_image (s : State) : s.finish.image = s.image := by unfold State.finish; split <;> rfl

/-- Completion when no fault was raised (40_engine_and_alu_primitives.md R105). -/
theorem State.finish_of_ok {s : State} {r : InstrRecord} (hf : s.fault = none) (hc : s.cur = some r) :
    s.finish = { s with cur := some { r with complete := true }, last := some { r with complete := true } } := by
  unfold State.finish; rw [hf, hc]

/-- Nothing is recorded when a fault was raised (40_engine_and_alu_primitives.md R111). -/
theorem State.finish_of_fault {s : State} {r : FaultRecord} (hf : s.fault = some r) : s.finish = s := by
  unfold State.finish; rw [hf]

end Sys2Proof.Machine
end

