-- ==== Sys2Proof/Laws/Ops.lean ====
section
/-! SUPPORT. What each shared operation over the bus and the stack can do. -/

namespace Sys2Proof

@[simp] theorem hiByte_joinBytes (h l : Byte) : hiByte (joinBytes h l) = h := by
  unfold hiByte joinBytes
  rw [BitVec.extractLsb'_append_eq_of_le (by decide)]
  simp

@[simp] theorem loByte_joinBytes (h l : Byte) : loByte (joinBytes h l) = l := by
  unfold loByte joinBytes
  rw [BitVec.extractLsb'_append_eq_of_add_le (by decide)]
  simp

@[simp] theorem joinBytes_hiByte_loByte (w : Word) : joinBytes (hiByte w) (loByte w) = w := by
  unfold joinBytes hiByte loByte
  rw [BitVec.extractLsb'_append_extractLsb'_eq_extractLsb' (by decide)]
  simp

/-- Addresses are 16-bit. -/
theorem addr_lt (a : Word) : a.toNat < Config.spaceSize := a.isLt

end Sys2Proof

namespace Sys2Proof.Machine

/-! ### Reads -/

/-- A read depends on RAM, the selected bank and the image alone (20_memory.md R55). -/
theorem State.readByte_congr {s t : State} (hr : t.ram = s.ram) (hb : t.romBank = s.romBank) (hi : t.image = s.image) (a : Word) :
    t.readByte a = s.readByte a := by
  simp only [State.readByte, hr, hb, hi]

/-- A read of RAM (20_memory.md R42, R45). -/
theorem State.readByte_ram (s : State) {a : Word} (h : Config.ramBase ≤ a.toNat) :
    s.readByte a = .ok (Cells.read s.ram a.toNat) := by
  have hb : Config.bankSize ≤ Config.ramBase := by decide
  rw [State.readByte, if_neg (by omega), if_neg (by omega)]

/-- A read of bank 0 (20_memory.md R46). -/
theorem State.readByte_bank0 (s : State) {a : Word} (h : a.toNat < Config.bankSize) :
    s.readByte a = s.image.romByte 0 a.toNat := by
  rw [State.readByte, if_pos h]

/-- A read of the switchable bank (20_memory.md R47). -/
theorem State.readByte_bankN (s : State) {a : Word} (h : Config.bankSize ≤ a.toNat) (h' : a.toNat < Config.ramBase) :
    s.readByte a = s.image.romByte s.romBank.toNat (a.toNat - Config.bankSize) := by
  rw [State.readByte, if_neg (by omega), if_pos h']

/-- An image has a byte of every offset below its size, and of no other (20_memory.md R44, R47). -/
theorem Image.romByte_eq (m : Image) (k off : Nat) (ho : off < Config.bankSize) :
    m.romByte k off =
      if k * Config.bankSize + off < m.size then .ok (m.byte (k * Config.bankSize + off))
      else .error { kind := .outOfRange, info := if m.nbanks ≤ k then k else k * Config.bankSize + off } := by
  have hb : Config.bankSize = 16384 := rfl
  unfold Image.romByte Image.nbanks
  rw [hb] at ho ⊢
  by_cases h1 : (m.size + (16384 - 1)) / 16384 ≤ k
  · rw [if_pos h1, if_neg (by omega), if_pos h1]
  · rw [if_neg h1]
    by_cases h2 : m.size ≤ k * 16384 + off
    · rw [if_pos h2, if_neg (by omega), if_neg h1]
    · rw [if_neg h2, if_pos (by omega)]

/-- A read succeeds exactly where `readable` says (20_memory.md R45 to R47). -/
theorem State.readable_iff (s : State) (a : Word) : s.readable a = true ↔ ∃ v, s.readByte a = .ok v := by
  unfold State.readable State.readByte
  have hb : Config.bankSize = 16384 := rfl
  have hr : Config.ramBase = 32768 := rfl
  split
  · rw [Image.romByte_eq _ _ _ (by omega)]
    simp only [Nat.zero_mul, Nat.zero_add, decide_eq_true_eq]
    split <;> simp_all
  · split
    · rw [Image.romByte_eq _ _ _ (by omega)]
      simp only [decide_eq_true_eq]
      split <;> simp_all
    · simp

/-! ### Writes -/

/-- A write to RAM (20_memory.md R42, R48). -/
theorem State.writeByte_ram (s : State) {a : Word} (v : Byte) (h : Config.ramBase ≤ a.toNat) :
    s.writeByte a v = .ok { s with ram := Cells.write s.ram a.toNat v } := by
  rw [State.writeByte, if_pos h]

/-- What a write can change: one RAM cell, or controller registers; nothing else (20_memory.md R48 to R54). -/
theorem State.writeByte_ok {s t : State} {a : Word} {v : Byte} (h : s.writeByte a v = .ok t) :
    (Config.ramBase ≤ a.toNat ∧ t = { s with ram := Cells.write s.ram a.toNat v }) ∨
    (a.toNat < Config.ramBase ∧ s.image.banking = true ∧
      t = { s with ramEnable := t.ramEnable, romBank := t.romBank, ramBank := t.ramBank, mode := t.mode }) := by
  unfold State.writeByte at h
  split at h
  · exact .inl ⟨by assumption, (Except.ok.inj h).symm⟩
  · refine .inr ⟨by omega, ?_⟩
    split at h
    · refine ⟨by assumption, ?_⟩
      unfold State.writeController at h
      split at h
      · rw [← Except.ok.inj h]
      · split at h
        · rw [← Except.ok.inj h]
        · split at h
          · split at h <;> rw [← Except.ok.inj h]
          · split at h
            · rw [← Except.ok.inj h]
            · split at h
              · rw [← Except.ok.inj h]
              · cases h
    · cases h

/-- The bank select keeps the low field from zero (10_state.md R27). -/
theorem selectLow_low (bank : BitVec 7) (v : Byte) : (selectLow bank v).extractLsb' 0 5 ≠ 0 := by
  have hh : ∀ (hi : BitVec 2) (lo : BitVec 5), (hi ++ lo).extractLsb' 0 5 = lo := by decide
  show ((bank.extractLsb' 5 2 ++ (if v.extractLsb' 0 5 = 0 then 1 else v.extractLsb' 0 5)).extractLsb' 0 5) ≠ 0
  rw [hh]
  split
  · decide
  · assumption

/-- The high field leaves the low field alone (20_memory.md R51). -/
theorem selectHigh_low (bank : BitVec 7) (v : Byte) : (selectHigh bank v).extractLsb' 0 5 = bank.extractLsb' 0 5 := by
  have hh : ∀ (hi : BitVec 2) (lo : BitVec 5), (hi ++ lo).extractLsb' 0 5 = lo := by decide
  exact hh _ _

/-- A write keeps `rom_bank[4:0]` from zero (10_state.md R27). -/
theorem State.writeByte_bank {s t : State} {a : Word} {v : Byte} (h : s.writeByte a v = .ok t)
    (hb : s.romBank.extractLsb' 0 5 ≠ 0) : t.romBank.extractLsb' 0 5 ≠ 0 := by
  unfold State.writeByte at h
  split at h
  · rw [← Except.ok.inj h]; exact hb
  · split at h
    · unfold State.writeController at h
      split at h
      · rw [← Except.ok.inj h]; exact hb
      · split at h
        · rw [← Except.ok.inj h]; exact selectLow_low _ _
        · split at h
          · split at h
            · rw [← Except.ok.inj h]; exact (selectHigh_low _ _).symm ▸ hb
            · rw [← Except.ok.inj h]; exact hb
          · split at h
            · rw [← Except.ok.inj h]; exact hb
            · split at h
              · rw [← Except.ok.inj h]; exact hb
              · cases h
    · cases h

/-- A write succeeds exactly where `writable` says (20_memory.md R48 to R54). -/
theorem State.writable_iff (s : State) (a : Word) (v : Byte) : s.writable a v = true ↔ ∃ t, s.writeByte a v = .ok t := by
  have hr : Config.ramBase = 32768 := rfl
  have hv : (v.toNat ≤ 1) ↔ (v = 0x00 ∨ v = 0x01) := by
    constructor
    · intro h
      rcases Nat.le_one_iff_eq_zero_or_eq_one.1 h with h | h
      · exact .inl (BitVec.eq_of_toNat_eq h)
      · exact .inr (BitVec.eq_of_toNat_eq h)
    · rintro (h | h) <;> subst h <;> decide
  unfold State.writable State.writeByte
  by_cases h1 : Config.ramBase ≤ a.toNat
  · simp [h1]
  · rw [if_neg h1]
    by_cases h2 : s.image.banking = true
    · rw [if_pos h2]
      unfold State.writeController
      by_cases h3 : a.toNat < 0x2000
      · simp [h2, h3]; omega
      · rw [if_neg h3]
        by_cases h4 : a.toNat < 0x4000
        · simp [h2, h4]; omega
        · rw [if_neg h4]
          by_cases h5 : a.toNat < 0x6000
          · simp [h2, h5]; cases s.mode <;> simp
          · rw [if_neg h5]
            simp only [h1, h2, h5, hv, decide_false, Bool.false_or, Bool.true_and, decide_eq_true_eq]
            constructor
            · rintro (h | h) <;> simp [h]
            · intro h
              by_cases h6 : v = 0x00
              · exact .inl h6
              · rw [if_neg h6] at h
                by_cases h7 : v = 0x01
                · exact .inr h7
                · rw [if_neg h7] at h; obtain ⟨t, h⟩ := h; cases h
    · simp [h1, h2]

/-- A write to RAM is read back, and every other address reads as before (20_memory.md R42). -/
theorem State.readByte_write_ram {s : State} {lo hi : Nat} (hw : Cells.wf lo hi s.ram = true) {a : Word} (v : Byte)
    (h : Config.ramBase ≤ a.toNat) (b : Word) :
    ({ s with ram := Cells.write s.ram a.toNat v } : State).readByte b = if b = a then .ok v else s.readByte b := by
  by_cases hb : b = a
  · subst hb
    rw [if_pos rfl, State.readByte_ram _ h]
    exact congrArg _ (Cells.read_write_self hw _ v)
  · rw [if_neg hb]
    have hne : b.toNat ≠ a.toNat := fun e => hb (BitVec.eq_of_toNat_eq e)
    unfold State.readByte
    split
    · rfl
    · split
      · rfl
      · exact congrArg _ (Cells.read_write_of_ne _ v hne)

/-- After any write, every other address outside the switchable window reads as before, and inside it as the bank now selected
says (20_memory.md R42, R55). -/
theorem State.readByte_writeByte {s t : State} {a : Word} {v : Byte} (h : s.writeByte a v = .ok t) {b : Word} (hb : b ≠ a) :
    t.readByte b = ({ s with romBank := t.romBank } : State).readByte b := by
  rcases State.writeByte_ok h with ⟨_, rfl⟩ | ⟨_, _, ht⟩
  · have hne : b.toNat ≠ a.toNat := fun e => hb (BitVec.eq_of_toNat_eq e)
    unfold State.readByte
    split
    · rfl
    · split
      · rfl
      · exact congrArg _ (Cells.read_write_of_ne _ v hne)
  · rw [ht]; exact State.readByte_congr rfl rfl rfl b

/-! ### Accesses inside an instruction -/

theorem State.withRead_ok {s : State} {a : Word} {v : Byte} (h : s.readByte a = .ok v) (k : Byte → Result) :
    s.withRead a k = k v := by unfold State.withRead; rw [h]

theorem State.withRead_error {s : State} {a : Word} {r : FaultRecord} (h : s.readByte a = .error r) (k : Byte → Result) :
    s.withRead a k = .next { s with fault := some r } := by unfold State.withRead; rw [h]; rfl

theorem State.withWrite_ok {s t : State} {a : Word} {v : Byte} (h : s.writeByte a v = .ok t) (k : State → Result) :
    s.withWrite a v k = k t := by unfold State.withWrite; rw [h]

theorem State.withWrite_error {s : State} {a : Word} {v : Byte} {r : FaultRecord} (h : s.writeByte a v = .error r)
    (k : State → Result) : s.withWrite a v k = .next { s with fault := some r } := by unfold State.withWrite; rw [h]; rfl

/-- A read either goes on or latches its fault with nothing else changed. -/
theorem State.withRead_cases (s : State) (a : Word) (k : Byte → Result) :
    (∃ v, s.readByte a = .ok v ∧ s.withRead a k = k v) ∨
    (∃ r, s.readByte a = .error r ∧ s.withRead a k = .next { s with fault := some r }) := by
  cases h : s.readByte a with
  | ok v => exact .inl ⟨v, rfl, State.withRead_ok h k⟩
  | error r => exact .inr ⟨r, rfl, State.withRead_error h k⟩

/-- A write either goes on or latches its fault with nothing else changed. -/
theorem State.withWrite_cases (s : State) (a : Word) (v : Byte) (k : State → Result) :
    (∃ t, s.writeByte a v = .ok t ∧ s.withWrite a v k = k t) ∨
    (∃ r, s.writeByte a v = .error r ∧ s.withWrite a v k = .next { s with fault := some r }) := by
  cases h : s.writeByte a v with
  | ok t => exact .inl ⟨t, rfl, State.withWrite_ok h k⟩
  | error r => exact .inr ⟨r, rfl, State.withWrite_error h k⟩

/-- `Push16` with both writes done (42_load16.md R154). -/
theorem State.push16_ok {s s1 s2 : State} {w : Word} (h1 : s.writeByte (s.sp - 1) (hiByte w) = .ok s1)
    (h2 : s1.writeByte (s.sp - 2) (loByte w) = .ok s2) (k : State → Result) :
    s.push16 w k = k { s2 with sp := s.sp - 2 } := by
  unfold State.push16; rw [State.withWrite_ok h1, State.withWrite_ok h2]

/-- `Pop16` with both reads done (42_load16.md R155). -/
theorem State.pop16_ok {s : State} {lo hi : Byte} (h1 : s.readByte s.sp = .ok lo) (h2 : s.readByte (s.sp + 1) = .ok hi)
    (k : Word → State → Result) : s.pop16 k = k (joinBytes hi lo) { s with sp := s.sp + 2 } := by
  unfold State.pop16; rw [State.withRead_ok h1, State.withRead_ok h2]

/-! ### What an access inside an instruction can end in -/

/-- A read that ended in a next state: it went on, or it latched its fault. -/
theorem State.withRead_next {s t : State} {a : Word} {k : Byte → Result} (h : s.withRead a k = .next t) :
    (∃ v, s.readByte a = .ok v ∧ k v = .next t) ∨ (∃ r, s.readByte a = .error r ∧ t = { s with fault := some r }) := by
  rcases State.withRead_cases s a k with ⟨v, hv, e⟩ | ⟨r, hr, e⟩
  · exact .inl ⟨v, hv, e.symm.trans h⟩
  · exact .inr ⟨r, hr, (Host.Outcome.next.inj (e.symm.trans h)).symm⟩

/-- A write that ended in a next state: it went on, or it latched its fault. -/
theorem State.withWrite_next {s t : State} {a : Word} {v : Byte} {k : State → Result} (h : s.withWrite a v k = .next t) :
    (∃ s1, s.writeByte a v = .ok s1 ∧ k s1 = .next t) ∨ (∃ r, s.writeByte a v = .error r ∧ t = { s with fault := some r }) := by
  rcases State.withWrite_cases s a v k with ⟨s1, hv, e⟩ | ⟨r, hr, e⟩
  · exact .inl ⟨s1, hv, e.symm.trans h⟩
  · exact .inr ⟨r, hr, (Host.Outcome.next.inj (e.symm.trans h)).symm⟩

/-- A push that ended in a next state: both writes done, or the first or the second latched its fault. -/
theorem State.push16_next {s t : State} {w : Word} {k : State → Result} (h : s.push16 w k = .next t) :
    (∃ s1 s2, s.writeByte (s.sp - 1) (hiByte w) = .ok s1 ∧ s1.writeByte (s.sp - 2) (loByte w) = .ok s2 ∧
      k { s2 with sp := s.sp - 2 } = .next t) ∨
    (∃ r, s.writeByte (s.sp - 1) (hiByte w) = .error r ∧ t = { s with fault := some r }) ∨
    (∃ s1 r, s.writeByte (s.sp - 1) (hiByte w) = .ok s1 ∧ s1.writeByte (s.sp - 2) (loByte w) = .error r ∧
      t = { s1 with fault := some r }) := by
  rcases State.withWrite_next h with ⟨s1, h1, h⟩ | ⟨r, h1, h⟩
  · rcases State.withWrite_next h with ⟨s2, h2, h⟩ | ⟨r, h2, h⟩
    · exact .inl ⟨s1, s2, h1, h2, h⟩
    · exact .inr (.inr ⟨s1, r, h1, h2, h⟩)
  · exact .inr (.inl ⟨r, h1, h⟩)

/-- A pop that ended in a next state: both reads done, or one latched its fault with nothing else changed. -/
theorem State.pop16_next {s t : State} {k : Word → State → Result} (h : s.pop16 k = .next t) :
    (∃ lo hi, s.readByte s.sp = .ok lo ∧ s.readByte (s.sp + 1) = .ok hi ∧
      k (joinBytes hi lo) { s with sp := s.sp + 2 } = .next t) ∨
    (∃ r, t = { s with fault := some r } ∧ (s.readByte s.sp = .error r ∨ s.readByte (s.sp + 1) = .error r)) := by
  rcases State.withRead_next h with ⟨lo, h1, h⟩ | ⟨r, h1, h⟩
  · rcases State.withRead_next h with ⟨hi, h2, h⟩ | ⟨r, h2, h⟩
    · exact .inl ⟨lo, hi, h1, h2, h⟩
    · exact .inr ⟨r, h, .inr h2⟩
  · exact .inr ⟨r, h, .inl h1⟩

/-! ### Every access ends in a next state -/

theorem State.withRead_total {s : State} {a : Word} {k : Byte → Result} (h : ∀ v, ∃ t, k v = .next t) :
    ∃ t, s.withRead a k = .next t := by
  rcases State.withRead_cases s a k with ⟨v, _, e⟩ | ⟨r, _, e⟩
  · rw [e]; exact h v
  · exact ⟨_, e⟩

theorem State.withWrite_total {s : State} {a : Word} {v : Byte} {k : State → Result} (h : ∀ s1, ∃ t, k s1 = .next t) :
    ∃ t, s.withWrite a v k = .next t := by
  rcases State.withWrite_cases s a v k with ⟨s1, _, e⟩ | ⟨r, _, e⟩
  · rw [e]; exact h s1
  · exact ⟨_, e⟩

theorem State.push16_total {s : State} {w : Word} {k : State → Result} (h : ∀ s1, ∃ t, k s1 = .next t) :
    ∃ t, s.push16 w k = .next t :=
  State.withWrite_total fun _ => State.withWrite_total fun _ => h _

theorem State.pop16_total {s : State} {k : Word → State → Result} (h : ∀ w s1, ∃ t, k w s1 = .next t) :
    ∃ t, s.pop16 k = .next t :=
  State.withRead_total fun _ => State.withRead_total fun _ => h _ _

end Sys2Proof.Machine
end

