-- ==== Sys2Proof/Laws/Commands.lean ====
section
/-! SUPPORT. What `Load` installs, field by field, and that `Reset` after it is power-on; what the descriptor query answers by the kind of
table entry; and what the host's bus commands do, said once over the address check and the run check, so that no later proof unfolds
`applyCommand`, `hostAddr` or `hostRun`. -/

namespace Sys2Proof.Machine

/-! ### `Load`, and `Reset` after it -/

@[simp] theorem State.install_a (s : State) (m : Image) (r : List Host.Cell) : (s.install m r).a = s.a := rfl
@[simp] theorem State.install_b (s : State) (m : Image) (r : List Host.Cell) : (s.install m r).b = s.b := rfl
@[simp] theorem State.install_c (s : State) (m : Image) (r : List Host.Cell) : (s.install m r).c = s.c := rfl
@[simp] theorem State.install_d (s : State) (m : Image) (r : List Host.Cell) : (s.install m r).d = s.d := rfl
@[simp] theorem State.install_e (s : State) (m : Image) (r : List Host.Cell) : (s.install m r).e = s.e := rfl
@[simp] theorem State.install_h (s : State) (m : Image) (r : List Host.Cell) : (s.install m r).h = s.h := rfl
@[simp] theorem State.install_l (s : State) (m : Image) (r : List Host.Cell) : (s.install m r).l = s.l := rfl
@[simp] theorem State.install_f (s : State) (m : Image) (r : List Host.Cell) : (s.install m r).f = s.f := rfl
@[simp] theorem State.install_sp (s : State) (m : Image) (r : List Host.Cell) : (s.install m r).sp = s.sp := rfl
@[simp] theorem State.install_pc (s : State) (m : Image) (r : List Host.Cell) : (s.install m r).pc = s.pc := rfl
@[simp] theorem State.install_cur (s : State) (m : Image) (r : List Host.Cell) : (s.install m r).cur = s.cur := rfl
@[simp] theorem State.install_fault (s : State) (m : Image) (r : List Host.Cell) : (s.install m r).fault = s.fault := rfl
@[simp] theorem State.install_last (s : State) (m : Image) (r : List Host.Cell) : (s.install m r).last = none := rfl
@[simp] theorem State.install_ramEnable (s : State) (m : Image) (r : List Host.Cell) : (s.install m r).ramEnable = false := rfl
@[simp] theorem State.install_romBank (s : State) (m : Image) (r : List Host.Cell) : (s.install m r).romBank = 1 := rfl
@[simp] theorem State.install_ramBank (s : State) (m : Image) (r : List Host.Cell) : (s.install m r).ramBank = 0 := rfl
@[simp] theorem State.install_mode (s : State) (m : Image) (r : List Host.Cell) : (s.install m r).mode = .romBanking := rfl
@[simp] theorem State.install_bpEn (s : State) (m : Image) (r : List Host.Cell) : (s.install m r).bpEn = false := rfl
@[simp] theorem State.install_bpAddr (s : State) (m : Image) (r : List Host.Cell) : (s.install m r).bpAddr = 0 := rfl
@[simp] theorem State.install_ram (s : State) (m : Image) (r : List Host.Cell) : (s.install m r).ram = r := rfl
@[simp] theorem State.install_image (s : State) (m : Image) (r : List Host.Cell) : (s.install m r).image = m := rfl

/-- `Load` then `Reset` is power-on, whatever the state before (70_reset_and_hazards.md R297). -/
theorem State.doReset_install (s : State) (m : Image) (r : List Host.Cell) : (s.install m r).doReset = State.powerOn m r := rfl

/-- A valid image is a cartridge (20_memory.md R62). -/
theorem Image.size_of_valid {m : Image} (h : m.valid = true) : Config.minImageSize ≤ m.size := by
  simp only [Image.valid, Bool.and_eq_true, decide_eq_true_eq] at h
  exact h.1.1

/-- After `Load` of a valid image the block has a cartridge (20_memory.md R61). -/
theorem State.hasCartridge_install {m : Image} (h : m.valid = true) (s : State) (r : List Host.Cell) :
    (s.install m r).hasCartridge = true := by
  have := Image.size_of_valid h
  simp only [State.hasCartridge, State.install_image, bne_iff_ne]
  unfold Config.minImageSize at this
  omega

/-- What `Load` answers on a valid image, and on another (20_memory.md R61, R62). -/
theorem load_valid {m : Image} (h : m.valid = true) (s : State) (r : List Host.Cell) :
    applyCommand (.load m r) s = .next (.done, s.install m r) := by
  simp only [applyCommand, State.load, h, if_true, respond]

theorem load_invalid {m : Image} (h : m.valid = false) (s : State) (r : List Host.Cell) :
    applyCommand (.load m r) s =
      .next (.failed { kind := .loadValidationFailure, info := 0 }, { s with image := Image.none }) := by
  simp [applyCommand, State.load, h, respond]

/-! ### The descriptor query -/

theorem descView_ins {op : Byte} {d : Desc} (h : primary op = .ins d) : descView op =
    { opcode := op, description := d.description, length := some d.length, cycles := some d.cycles, hasHandler := true } := by
  simp only [descView, h]

theorem descView_bare {op : Byte} (h : primary op = .bare) : descView op =
    { opcode := op, description := "PREFIX CB", length := none, cycles := none, hasHandler := false } := by
  simp only [descView, h]

theorem descView_hole {op : Byte} {i : Instr} (h : primary op = .hole i) : descView op =
    { opcode := op, description := "(undefined)", length := none, cycles := none, hasHandler := false } := by
  simp only [descView, h]

/-! ### The bus commands -/

/-- A host address inside the space is its bus address (20_memory.md R56). -/
theorem hostAddr_inside {a : Int} (h : 0 ≤ a) (h' : a < 0x10000) : hostAddr a = .ok (BitVec.ofNat 16 a.toNat) := by
  rw [hostAddr, if_pos ⟨h, by unfold Config.spaceSize; omega⟩]

/-- Every bus address is a host address (20_memory.md R56). -/
theorem hostAddr_toNat (w : Word) : hostAddr w.toNat = .ok w := by
  have := w.isLt
  rw [hostAddr_inside (by omega) (by omega)]
  simp

/-- A host address outside the space is OutOfRange (20_memory.md R56). -/
theorem hostAddr_outside {a : Int} (h : a < 0 ∨ 0x10000 ≤ a) :
    hostAddr a = .error { kind := .outOfRange, info := a.toNat } := by
  rw [hostAddr, if_neg (by unfold Config.spaceSize; omega)]

/-- A run inside the space begins at its address (20_memory.md R57). -/
theorem hostRun_inside {a : Int} {n : Nat} (h : 0 ≤ a) (h' : a + n ≤ 0x10000) : hostRun a n = .ok a.toNat := by
  rw [hostRun, if_neg (by omega), if_pos (by unfold Config.spaceSize; omega)]

/-- A run that leaves the space is OutOfRange (20_memory.md R57). -/
theorem hostRun_outside {a : Int} {n : Nat} (h : a < 0 ∨ 0x10000 < a + n) :
    ∃ info, hostRun a n = .error { kind := .outOfRange, info := info } := by
  by_cases h0 : a < 0
  · exact ⟨0, by rw [hostRun, if_pos h0]⟩
  · exact ⟨max a.toNat Config.spaceSize, by rw [hostRun, if_neg h0, if_neg (by unfold Config.spaceSize; omega)]⟩

/-! `GetByte` and `SetByte`, by the address check and the bus (20_memory.md R56). The address is any integer that passes the check:
with `hostAddr_toNat` the check is never evaluated. -/

theorem getByte_ok {s : State} {a : Int} {w : Word} {v : Byte} (ha : hostAddr a = .ok w) (h : s.readByte w = .ok v) :
    applyCommand (.getByte a) s = .next (.byte v, s) := by
  simp only [applyCommand, ha, h]

theorem getByte_error {s : State} {a : Int} {w : Word} {r : FaultRecord} (ha : hostAddr a = .ok w) (h : s.readByte w = .error r) :
    applyCommand (.getByte a) s = .next (.failed r, s) := by
  simp only [applyCommand, ha, h]

theorem getByte_outside {a : Int} {r : FaultRecord} (ha : hostAddr a = .error r) (s : State) :
    applyCommand (.getByte a) s = .next (.failed r, s) := by
  simp only [applyCommand, ha]

theorem setByte_ok {s t : State} {a : Int} {w : Word} {v : Byte} (ha : hostAddr a = .ok w) (h : s.writeByte w v = .ok t) :
    applyCommand (.setByte a v) s = .next (.done, t) := by
  simp only [applyCommand, ha, h]

theorem setByte_error {s : State} {a : Int} {w : Word} {v : Byte} {r : FaultRecord} (ha : hostAddr a = .ok w)
    (h : s.writeByte w v = .error r) : applyCommand (.setByte a v) s = .next (.failed r, s) := by
  simp only [applyCommand, ha, h]

theorem setByte_outside {a : Int} {r : FaultRecord} (ha : hostAddr a = .error r) (v : Byte) (s : State) :
    applyCommand (.setByte a v) s = .next (.failed r, s) := by
  simp only [applyCommand, ha]

/-- What `BulkRead` answers inside the space. -/
theorem bulkRead_of_run {a : Int} {n k : Nat} (h : hostRun a n = .ok k) (s : State) :
    applyCommand (.bulkRead a n) s = match s.readRun k n with
      | .error r => .next (.failed r, s)
      | .ok vs => .next (.bytes vs, s) := by
  cases hr : s.readRun k n <;> simp only [applyCommand, h, hr]

/-- What `BulkWrite` answers inside the space. -/
theorem bulkWrite_of_run {a : Int} {bs : List Byte} {k : Nat} (h : hostRun a bs.length = .ok k) (s : State) :
    applyCommand (.bulkWrite a bs) s = .next (respond (s.writeRun k bs)) := by
  simp only [applyCommand, h]

/-- Writing a run to RAM keeps the canonical form and every cell below it, and the run reads back (20_memory.md R42, R57). -/
theorem State.writeRun_ram (bs : List Byte) : ∀ (s : State) (a : Nat), Config.ramBase ≤ a → a + bs.length ≤ Config.spaceSize →
    Cells.wf Config.ramBase Config.spaceSize s.ram = true →
    ∃ t : State, s.writeRun a bs = (.ok (), t) ∧ Cells.wf Config.ramBase Config.spaceSize t.ram = true ∧
      t.readRun a bs.length = .ok bs ∧ ∀ k, k < a → Cells.read t.ram k = Cells.read s.ram k := by
  induction bs with
  | nil => exact fun s a _ _ hw => ⟨s, rfl, hw, rfl, fun _ _ => rfl⟩
  | cons v vs ih =>
    intro s a hl hh hw
    rw [List.length_cons] at hh
    have ha : (BitVec.ofNat 16 a).toNat = a := by
      rw [BitVec.toNat_ofNat]; exact Nat.mod_eq_of_lt (by unfold Config.spaceSize at hh; omega)
    have hb : Config.ramBase ≤ (BitVec.ofNat 16 a).toNat := by rw [ha]; exact hl
    obtain ⟨t, ht, hwt, hr, hf⟩ := ih { s with ram := Cells.write s.ram a v } (a + 1) (by omega) (by omega)
      (Cells.wf_write hw v hl (by omega))
    refine ⟨t, ?_, hwt, ?_, fun k hk => ?_⟩
    · simp only [State.writeRun, State.writeByte_ram s v hb, ha]; exact ht
    · simp only [List.length_cons, State.readRun, State.readByte_ram t hb, ha, hr]
      rw [hf a (by omega), Cells.read_write_self hw]
    · rw [hf k (by omega)]; exact Cells.read_write_of_ne _ _ (by omega)

end Sys2Proof.Machine
end

