-- ==== Sys2Proof/Laws/Decode.lean ====
section
/-! SUPPORT. What the two opcode tables hold, entry by entry: the bytes, lengths and handlers that the decoder, the encoder and the
fetch agree on. -/

namespace Sys2Proof

/-- What a primary table entry can be (30_encoding.md R80, R82, R87, R89). -/
inductive PrimarySpec (op : Byte) : Entry → Prop where
  | plain {d : Desc} {i : Instr} : d.handler = .plain i → encode i = [op] → d.length = 1 → 1 ≤ d.cycles → d.cycles ≤ 6 →
      i.HasHandler = true → PrimarySpec op (.ins d)
  | withByte {d : Desc} {mk : Byte → Instr} : d.handler = .withByte mk → (∀ p, encode (mk p) = [op, p]) → d.length = 2 →
      1 ≤ d.cycles → d.cycles ≤ 6 → (∀ p, (mk p).HasHandler = true) → PrimarySpec op (.ins d)
  | withWord {d : Desc} {mk : Word → Instr} : d.handler = .withWord mk → (∀ w, encode (mk w) = [op, loByte w, hiByte w]) →
      d.length = 3 → 1 ≤ d.cycles → d.cycles ≤ 6 → (∀ w, (mk w).HasHandler = true) → PrimarySpec op (.ins d)
  | bare : op = prefixByte → PrimarySpec op .bare
  | hole {i : Instr} : encode i = [op] → i.isHole = true → i.WellFormed = true → PrimarySpec op (.hole i)

/-- What a secondary table entry is (30_encoding.md R88). -/
structure SecondarySpec (b : Byte) (d : Desc) (i : Instr) : Prop where
  handler : d.handler = .plain i
  bytes : encode i = [prefixByte, b]
  length : d.length = 2
  cycles_pos : 2 ≤ d.cycles
  cycles_le : d.cycles ≤ 4
  hasHandler : i.HasHandler = true

/-- The sixteen bytes with a high nibble. -/
def nibbleRow (k : Nat) : List Byte := (List.range 16).map fun j => BitVec.ofNat 8 (16 * k + j)

/-- A property of all bytes, row by row. -/
theorem forall_byte {P : Byte → Prop} (h : ∀ k, k < 16 → ∀ op ∈ nibbleRow k, P op) (op : Byte) : P op := by
  refine h (op.toNat / 16) (by have := op.isLt; omega) op ?_
  refine List.mem_map.2 ⟨op.toNat % 16, List.mem_range.2 (Nat.mod_lt _ (by decide)), ?_⟩
  rw [Nat.div_add_mod]; exact BitVec.ofNat_toNat 8 op ▸ by simp

/-- The entries of one row of the primary table. -/
theorem primary_row (k : Nat) (hk : k < 16) : ∀ op ∈ nibbleRow k, PrimarySpec op (primary op) := by
  rcases k with _ | _ | _ | _ | _ | _ | _ | _ | _ | _ | _ | _ | _ | _ | _ | _ | k
  case succ => exact absurd hk (by omega)
  all_goals
    · simp only [nibbleRow, List.range, List.range.loop, List.map_cons, List.map_nil, List.forall_mem_cons]
      refine ⟨?_, ?_, ?_, ?_, ?_, ?_, ?_, ?_, ?_, ?_, ?_, ?_, ?_, ?_, ?_, ?_, by simp⟩
      all_goals first
        | exact .plain rfl rfl rfl (Nat.le_of_ble_eq_true rfl) (Nat.le_of_ble_eq_true rfl) rfl
        | exact .withByte rfl (fun _ => rfl) rfl (Nat.le_of_ble_eq_true rfl) (Nat.le_of_ble_eq_true rfl) (fun _ => rfl)
        | exact .withWord rfl (fun _ => rfl) rfl (Nat.le_of_ble_eq_true rfl) (Nat.le_of_ble_eq_true rfl) (fun _ => rfl)
        | exact .bare rfl
        | exact .hole rfl rfl rfl

/-- The entries of one row of the secondary table. -/
theorem secondary_row (k : Nat) (hk : k < 16) : ∀ b ∈ nibbleRow k, ∃ i, SecondarySpec b (secondary b) i := by
  rcases k with _ | _ | _ | _ | _ | _ | _ | _ | _ | _ | _ | _ | _ | _ | _ | _ | k
  case succ => exact absurd hk (by omega)
  all_goals
    · simp only [nibbleRow, List.range, List.range.loop, List.map_cons, List.map_nil, List.forall_mem_cons]
      refine ⟨?_, ?_, ?_, ?_, ?_, ?_, ?_, ?_, ?_, ?_, ?_, ?_, ?_, ?_, ?_, ?_, by simp⟩
      all_goals exact ⟨_, rfl, rfl, rfl, Nat.le_of_ble_eq_true rfl, Nat.le_of_ble_eq_true rfl, rfl⟩

/-- Every entry of the primary table. -/
theorem primary_spec (op : Byte) : PrimarySpec op (primary op) :=
  forall_byte (P := fun op => PrimarySpec op (primary op)) primary_row op

/-- Every entry of the secondary table. -/
theorem secondary_spec (b : Byte) : ∃ i, SecondarySpec b (secondary b) i :=
  forall_byte (P := fun b => ∃ i, SecondarySpec b (secondary b) i) secondary_row b

end Sys2Proof
end

