-- ==== Sys2Proof/Laws/Dispatch.lean ====
section
/-! SUPPORT. The dispatch by operand form: `exec i` is the shared operation of `i.form`, so that a fact about a form is a fact about
every instruction of that form, without a case split over 512 constructors. -/

namespace Sys2Proof.Machine

/-- The shared operation of a form. -/
def effect : Form → State → Result
  | .nop => opNop
  | .ldRrD16 x y => opLdRrD16 x y
  | .ldAtBcA => opLdAtBcA
  | .incRr x => opIncRr x
  | .incR x => opIncR x
  | .decR x => opDecR x
  | .ldRD8 x y => opLdRD8 x y
  | .rlca => opRlca
  | .ldAtA16Sp x => opLdAtA16Sp x
  | .addHlRr x => opAddHlRr x
  | .ldAAtBc => opLdAAtBc
  | .decRr x => opDecRr x
  | .rrca => opRrca
  | .stop x => opStop x
  | .ldAtDeA => opLdAtDeA
  | .rla => opRla
  | .jr x => opJr x
  | .ldAAtDe => opLdAAtDe
  | .rra => opRra
  | .jrCc x y => opJrCc x y
  | .ldAtHliA => opLdAtHliA
  | .daa => opDaa
  | .ldAAtHli => opLdAAtHli
  | .cpl => opCpl
  | .ldAtHldA => opLdAtHldA
  | .incAtHl => opIncAtHl
  | .decAtHl => opDecAtHl
  | .ldAtHlD8 x => opLdAtHlD8 x
  | .scf => opScf
  | .ldAAtHld => opLdAAtHld
  | .ccf => opCcf
  | .ldRR x y => opLdRR x y
  | .ldRAtHl x => opLdRAtHl x
  | .ldAtHlR x => opLdAtHlR x
  | .halt => opHalt
  | .aluR x y => opAluR x y
  | .aluAtHl x => opAluAtHl x
  | .retCc x => opRetCc x
  | .pop x => opPop x
  | .jpCc x y => opJpCc x y
  | .jp x => opJp x
  | .callCc x y => opCallCc x y
  | .push x => opPush x
  | .aluD8 x y => opAluD8 x y
  | .rst x => opRst x
  | .ret => opRet
  | .prefixCb => opPrefixCb
  | .call x => opCall x
  | .undef x => opUndef x
  | .reti => opReti
  | .ldhAtA8A x => opLdhAtA8A x
  | .ldAtCA => opLdAtCA
  | .addSpR8 x => opAddSpR8 x
  | .jpAtHl => opJpAtHl
  | .ldAtA16A x => opLdAtA16A x
  | .ldhAAtA8 x => opLdhAAtA8 x
  | .ldAAtC => opLdAAtC
  | .di => opDi
  | .ldHlSpR8 x => opLdHlSpR8 x
  | .ldSpHl => opLdSpHl
  | .ldAAtA16 x => opLdAAtA16 x
  | .ei => opEi
  | .rotR x y => opRotR x y
  | .rotAtHl x => opRotAtHl x
  | .bitR x y => opBitR x y
  | .bitAtHl x => opBitAtHl x
  | .resR x y => opResR x y
  | .resAtHl x => opResAtHl x
  | .setR x y => opSetR x y
  | .setAtHl x => opSetAtHl x

/-- Every meaning is the shared operation of its instruction's form. -/
theorem exec_eq_effect (i : Instr) (s : State) : exec i s = effect i.form s := by cases i <;> rfl

/-- The meaning of an instruction whose form is known. -/
theorem exec_of_form {i : Instr} {f : Form} (h : i.form = f) (s : State) : exec i s = effect f s := by
  rw [exec_eq_effect, h]

/-- No meaning stops: a fault is a next state with the latch set (log 2). -/
theorem effect_total (f : Form) (s : State) : ∃ t, effect f s = .next t := by
  have hret : ∃ t, returnFrom s = .next t := by
    unfold returnFrom; exact State.pop16_total fun _ _ => ⟨_, rfl⟩
  have hcall : ∀ w, ∃ t, callTo w s = .next t := fun w => by
    unfold callTo; exact State.push16_total fun _ => ⟨_, rfl⟩
  cases f <;> first
    | exact ⟨_, rfl⟩
    | exact State.withRead_total fun _ => ⟨_, rfl⟩
    | exact State.withWrite_total fun _ => ⟨_, rfl⟩
    | exact State.withRead_total fun _ => State.withWrite_total fun _ => ⟨_, rfl⟩
    | exact State.withWrite_total fun _ => State.withWrite_total fun _ => ⟨_, rfl⟩
    | exact State.push16_total fun _ => ⟨_, rfl⟩
    | exact hret
    | exact hcall _
    | (simp only [effect, opPop]; exact State.pop16_total fun _ _ => ⟨_, rfl⟩)
    | (simp only [effect, opJpCc, opJrCc, opCallCc, opRetCc]
       split
       · first | exact ⟨_, rfl⟩ | exact hret | exact hcall _
       · exact ⟨_, rfl⟩)

/-- No meaning stops, by instruction. -/
theorem exec_total (i : Instr) (s : State) : ∃ t, exec i s = .next t := by
  rw [exec_eq_effect]; exact effect_total i.form s

end Sys2Proof.Machine
end

