-- ==== Sys2Proof/Laws/PerInstr.lean ====
section
/-! SUPPORT. One lemma per constructor of `Instr`, for the families named in LAWS.json. -/

namespace Sys2Proof.Laws.EncodedLength

/-- 30_encoding.md R80: an instruction is 1 to 3 bytes long, and an instruction with a descriptor has exactly its declared
length. -/
def Statement (i : Instr) : Prop :=
  (encode i).length = ((i.desc).map Desc.length).getD 1 ∧ ((i.desc).map Desc.length).getD 1 ≤ Config.longestInstr

theorem nop : Statement .nop := ⟨rfl, Nat.le_of_ble_eq_true rfl⟩
theorem ldBcD16 (nn : Word) : Statement (.ldBcD16 nn) := ⟨rfl, Nat.le_of_ble_eq_true rfl⟩
theorem ldAtBcA : Statement .ldAtBcA := ⟨rfl, Nat.le_of_ble_eq_true rfl⟩
theorem incBc : Statement .incBc := ⟨rfl, Nat.le_of_ble_eq_true rfl⟩
theorem incB : Statement .incB := ⟨rfl, Nat.le_of_ble_eq_true rfl⟩
theorem decB : Statement .decB := ⟨rfl, Nat.le_of_ble_eq_true rfl⟩
theorem ldBD8 (n : Byte) : Statement (.ldBD8 n) := ⟨rfl, Nat.le_of_ble_eq_true rfl⟩
theorem rlca : Statement .rlca := ⟨rfl, Nat.le_of_ble_eq_true rfl⟩
theorem ldAtA16Sp (nn : Word) : Statement (.ldAtA16Sp nn) := ⟨rfl, Nat.le_of_ble_eq_true rfl⟩
theorem addHlBc : Statement .addHlBc := ⟨rfl, Nat.le_of_ble_eq_true rfl⟩
theorem ldAAtBc : Statement .ldAAtBc := ⟨rfl, Nat.le_of_ble_eq_true rfl⟩
theorem decBc : Statement .decBc := ⟨rfl, Nat.le_of_ble_eq_true rfl⟩
theorem incC : Statement .incC := ⟨rfl, Nat.le_of_ble_eq_true rfl⟩
theorem decC : Statement .decC := ⟨rfl, Nat.le_of_ble_eq_true rfl⟩
theorem ldCD8 (n : Byte) : Statement (.ldCD8 n) := ⟨rfl, Nat.le_of_ble_eq_true rfl⟩
theorem rrca : Statement .rrca := ⟨rfl, Nat.le_of_ble_eq_true rfl⟩
theorem stop (n : Byte) : Statement (.stop n) := ⟨rfl, Nat.le_of_ble_eq_true rfl⟩
theorem ldDeD16 (nn : Word) : Statement (.ldDeD16 nn) := ⟨rfl, Nat.le_of_ble_eq_true rfl⟩
theorem ldAtDeA : Statement .ldAtDeA := ⟨rfl, Nat.le_of_ble_eq_true rfl⟩
theorem incDe : Statement .incDe := ⟨rfl, Nat.le_of_ble_eq_true rfl⟩
theorem incD : Statement .incD := ⟨rfl, Nat.le_of_ble_eq_true rfl⟩
theorem decD : Statement .decD := ⟨rfl, Nat.le_of_ble_eq_true rfl⟩
theorem ldDD8 (n : Byte) : Statement (.ldDD8 n) := ⟨rfl, Nat.le_of_ble_eq_true rfl⟩
theorem rla : Statement .rla := ⟨rfl, Nat.le_of_ble_eq_true rfl⟩
theorem jrR8 (e : Byte) : Statement (.jrR8 e) := ⟨rfl, Nat.le_of_ble_eq_true rfl⟩
theorem addHlDe : Statement .addHlDe := ⟨rfl, Nat.le_of_ble_eq_true rfl⟩
theorem ldAAtDe : Statement .ldAAtDe := ⟨rfl, Nat.le_of_ble_eq_true rfl⟩
theorem decDe : Statement .decDe := ⟨rfl, Nat.le_of_ble_eq_true rfl⟩
theorem incE : Statement .incE := ⟨rfl, Nat.le_of_ble_eq_true rfl⟩
theorem decE : Statement .decE := ⟨rfl, Nat.le_of_ble_eq_true rfl⟩
theorem ldED8 (n : Byte) : Statement (.ldED8 n) := ⟨rfl, Nat.le_of_ble_eq_true rfl⟩
theorem rra : Statement .rra := ⟨rfl, Nat.le_of_ble_eq_true rfl⟩
theorem jrNzR8 (e : Byte) : Statement (.jrNzR8 e) := ⟨rfl, Nat.le_of_ble_eq_true rfl⟩
theorem ldHlD16 (nn : Word) : Statement (.ldHlD16 nn) := ⟨rfl, Nat.le_of_ble_eq_true rfl⟩
theorem ldAtHliA : Statement .ldAtHliA := ⟨rfl, Nat.le_of_ble_eq_true rfl⟩
theorem incHl : Statement .incHl := ⟨rfl, Nat.le_of_ble_eq_true rfl⟩
theorem incH : Statement .incH := ⟨rfl, Nat.le_of_ble_eq_true rfl⟩
theorem decH : Statement .decH := ⟨rfl, Nat.le_of_ble_eq_true rfl⟩
theorem ldHD8 (n : Byte) : Statement (.ldHD8 n) := ⟨rfl, Nat.le_of_ble_eq_true rfl⟩
theorem daa : Statement .daa := ⟨rfl, Nat.le_of_ble_eq_true rfl⟩
theorem jrZR8 (e : Byte) : Statement (.jrZR8 e) := ⟨rfl, Nat.le_of_ble_eq_true rfl⟩
theorem addHlHl : Statement .addHlHl := ⟨rfl, Nat.le_of_ble_eq_true rfl⟩
theorem ldAAtHli : Statement .ldAAtHli := ⟨rfl, Nat.le_of_ble_eq_true rfl⟩
theorem decHl : Statement .decHl := ⟨rfl, Nat.le_of_ble_eq_true rfl⟩
theorem incL : Statement .incL := ⟨rfl, Nat.le_of_ble_eq_true rfl⟩
theorem decL : Statement .decL := ⟨rfl, Nat.le_of_ble_eq_true rfl⟩
theorem ldLD8 (n : Byte) : Statement (.ldLD8 n) := ⟨rfl, Nat.le_of_ble_eq_true rfl⟩
theorem cpl : Statement .cpl := ⟨rfl, Nat.le_of_ble_eq_true rfl⟩
theorem jrNcR8 (e : Byte) : Statement (.jrNcR8 e) := ⟨rfl, Nat.le_of_ble_eq_true rfl⟩
theorem ldSpD16 (nn : Word) : Statement (.ldSpD16 nn) := ⟨rfl, Nat.le_of_ble_eq_true rfl⟩
theorem ldAtHldA : Statement .ldAtHldA := ⟨rfl, Nat.le_of_ble_eq_true rfl⟩
theorem incSp : Statement .incSp := ⟨rfl, Nat.le_of_ble_eq_true rfl⟩
theorem incAtHl : Statement .incAtHl := ⟨rfl, Nat.le_of_ble_eq_true rfl⟩
theorem decAtHl : Statement .decAtHl := ⟨rfl, Nat.le_of_ble_eq_true rfl⟩
theorem ldAtHlD8 (n : Byte) : Statement (.ldAtHlD8 n) := ⟨rfl, Nat.le_of_ble_eq_true rfl⟩
theorem scf : Statement .scf := ⟨rfl, Nat.le_of_ble_eq_true rfl⟩
theorem jrCR8 (e : Byte) : Statement (.jrCR8 e) := ⟨rfl, Nat.le_of_ble_eq_true rfl⟩
theorem addHlSp : Statement .addHlSp := ⟨rfl, Nat.le_of_ble_eq_true rfl⟩
theorem ldAAtHld : Statement .ldAAtHld := ⟨rfl, Nat.le_of_ble_eq_true rfl⟩
theorem decSp : Statement .decSp := ⟨rfl, Nat.le_of_ble_eq_true rfl⟩
theorem incA : Statement .incA := ⟨rfl, Nat.le_of_ble_eq_true rfl⟩
theorem decA : Statement .decA := ⟨rfl, Nat.le_of_ble_eq_true rfl⟩
theorem ldAD8 (n : Byte) : Statement (.ldAD8 n) := ⟨rfl, Nat.le_of_ble_eq_true rfl⟩
theorem ccf : Statement .ccf := ⟨rfl, Nat.le_of_ble_eq_true rfl⟩
theorem ldBB : Statement .ldBB := ⟨rfl, Nat.le_of_ble_eq_true rfl⟩
theorem ldBC : Statement .ldBC := ⟨rfl, Nat.le_of_ble_eq_true rfl⟩
theorem ldBD : Statement .ldBD := ⟨rfl, Nat.le_of_ble_eq_true rfl⟩
theorem ldBE : Statement .ldBE := ⟨rfl, Nat.le_of_ble_eq_true rfl⟩
theorem ldBH : Statement .ldBH := ⟨rfl, Nat.le_of_ble_eq_true rfl⟩
theorem ldBL : Statement .ldBL := ⟨rfl, Nat.le_of_ble_eq_true rfl⟩
theorem ldBAtHl : Statement .ldBAtHl := ⟨rfl, Nat.le_of_ble_eq_true rfl⟩
theorem ldBA : Statement .ldBA := ⟨rfl, Nat.le_of_ble_eq_true rfl⟩
theorem ldCB : Statement .ldCB := ⟨rfl, Nat.le_of_ble_eq_true rfl⟩
theorem ldCC : Statement .ldCC := ⟨rfl, Nat.le_of_ble_eq_true rfl⟩
theorem ldCD : Statement .ldCD := ⟨rfl, Nat.le_of_ble_eq_true rfl⟩
theorem ldCE : Statement .ldCE := ⟨rfl, Nat.le_of_ble_eq_true rfl⟩
theorem ldCH : Statement .ldCH := ⟨rfl, Nat.le_of_ble_eq_true rfl⟩
theorem ldCL : Statement .ldCL := ⟨rfl, Nat.le_of_ble_eq_true rfl⟩
theorem ldCAtHl : Statement .ldCAtHl := ⟨rfl, Nat.le_of_ble_eq_true rfl⟩
theorem ldCA : Statement .ldCA := ⟨rfl, Nat.le_of_ble_eq_true rfl⟩
theorem ldDB : Statement .ldDB := ⟨rfl, Nat.le_of_ble_eq_true rfl⟩
theorem ldDC : Statement .ldDC := ⟨rfl, Nat.le_of_ble_eq_true rfl⟩
theorem ldDD : Statement .ldDD := ⟨rfl, Nat.le_of_ble_eq_true rfl⟩
theorem ldDE : Statement .ldDE := ⟨rfl, Nat.le_of_ble_eq_true rfl⟩
theorem ldDH : Statement .ldDH := ⟨rfl, Nat.le_of_ble_eq_true rfl⟩
theorem ldDL : Statement .ldDL := ⟨rfl, Nat.le_of_ble_eq_true rfl⟩
theorem ldDAtHl : Statement .ldDAtHl := ⟨rfl, Nat.le_of_ble_eq_true rfl⟩
theorem ldDA : Statement .ldDA := ⟨rfl, Nat.le_of_ble_eq_true rfl⟩
theorem ldEB : Statement .ldEB := ⟨rfl, Nat.le_of_ble_eq_true rfl⟩
theorem ldEC : Statement .ldEC := ⟨rfl, Nat.le_of_ble_eq_true rfl⟩
theorem ldED : Statement .ldED := ⟨rfl, Nat.le_of_ble_eq_true rfl⟩
theorem ldEE : Statement .ldEE := ⟨rfl, Nat.le_of_ble_eq_true rfl⟩
theorem ldEH : Statement .ldEH := ⟨rfl, Nat.le_of_ble_eq_true rfl⟩
theorem ldEL : Statement .ldEL := ⟨rfl, Nat.le_of_ble_eq_true rfl⟩
theorem ldEAtHl : Statement .ldEAtHl := ⟨rfl, Nat.le_of_ble_eq_true rfl⟩
theorem ldEA : Statement .ldEA := ⟨rfl, Nat.le_of_ble_eq_true rfl⟩
theorem ldHB : Statement .ldHB := ⟨rfl, Nat.le_of_ble_eq_true rfl⟩
theorem ldHC : Statement .ldHC := ⟨rfl, Nat.le_of_ble_eq_true rfl⟩
theorem ldHD : Statement .ldHD := ⟨rfl, Nat.le_of_ble_eq_true rfl⟩
theorem ldHE : Statement .ldHE := ⟨rfl, Nat.le_of_ble_eq_true rfl⟩
theorem ldHH : Statement .ldHH := ⟨rfl, Nat.le_of_ble_eq_true rfl⟩
theorem ldHL : Statement .ldHL := ⟨rfl, Nat.le_of_ble_eq_true rfl⟩
theorem ldHAtHl : Statement .ldHAtHl := ⟨rfl, Nat.le_of_ble_eq_true rfl⟩
theorem ldHA : Statement .ldHA := ⟨rfl, Nat.le_of_ble_eq_true rfl⟩
theorem ldLB : Statement .ldLB := ⟨rfl, Nat.le_of_ble_eq_true rfl⟩
theorem ldLC : Statement .ldLC := ⟨rfl, Nat.le_of_ble_eq_true rfl⟩
theorem ldLD : Statement .ldLD := ⟨rfl, Nat.le_of_ble_eq_true rfl⟩
theorem ldLE : Statement .ldLE := ⟨rfl, Nat.le_of_ble_eq_true rfl⟩
theorem ldLH : Statement .ldLH := ⟨rfl, Nat.le_of_ble_eq_true rfl⟩
theorem ldLL : Statement .ldLL := ⟨rfl, Nat.le_of_ble_eq_true rfl⟩
theorem ldLAtHl : Statement .ldLAtHl := ⟨rfl, Nat.le_of_ble_eq_true rfl⟩
theorem ldLA : Statement .ldLA := ⟨rfl, Nat.le_of_ble_eq_true rfl⟩
theorem ldAtHlB : Statement .ldAtHlB := ⟨rfl, Nat.le_of_ble_eq_true rfl⟩
theorem ldAtHlC : Statement .ldAtHlC := ⟨rfl, Nat.le_of_ble_eq_true rfl⟩
theorem ldAtHlD : Statement .ldAtHlD := ⟨rfl, Nat.le_of_ble_eq_true rfl⟩
theorem ldAtHlE : Statement .ldAtHlE := ⟨rfl, Nat.le_of_ble_eq_true rfl⟩
theorem ldAtHlH : Statement .ldAtHlH := ⟨rfl, Nat.le_of_ble_eq_true rfl⟩
theorem ldAtHlL : Statement .ldAtHlL := ⟨rfl, Nat.le_of_ble_eq_true rfl⟩
theorem halt : Statement .halt := ⟨rfl, Nat.le_of_ble_eq_true rfl⟩
theorem ldAtHlA : Statement .ldAtHlA := ⟨rfl, Nat.le_of_ble_eq_true rfl⟩
theorem ldAB : Statement .ldAB := ⟨rfl, Nat.le_of_ble_eq_true rfl⟩
theorem ldAC : Statement .ldAC := ⟨rfl, Nat.le_of_ble_eq_true rfl⟩
theorem ldAD : Statement .ldAD := ⟨rfl, Nat.le_of_ble_eq_true rfl⟩
theorem ldAE : Statement .ldAE := ⟨rfl, Nat.le_of_ble_eq_true rfl⟩
theorem ldAH : Statement .ldAH := ⟨rfl, Nat.le_of_ble_eq_true rfl⟩
theorem ldAL : Statement .ldAL := ⟨rfl, Nat.le_of_ble_eq_true rfl⟩
theorem ldAAtHl : Statement .ldAAtHl := ⟨rfl, Nat.le_of_ble_eq_true rfl⟩
theorem ldAA : Statement .ldAA := ⟨rfl, Nat.le_of_ble_eq_true rfl⟩
theorem addAB : Statement .addAB := ⟨rfl, Nat.le_of_ble_eq_true rfl⟩
theorem addAC : Statement .addAC := ⟨rfl, Nat.le_of_ble_eq_true rfl⟩
theorem addAD : Statement .addAD := ⟨rfl, Nat.le_of_ble_eq_true rfl⟩
theorem addAE : Statement .addAE := ⟨rfl, Nat.le_of_ble_eq_true rfl⟩
theorem addAH : Statement .addAH := ⟨rfl, Nat.le_of_ble_eq_true rfl⟩
theorem addAL : Statement .addAL := ⟨rfl, Nat.le_of_ble_eq_true rfl⟩
theorem addAAtHl : Statement .addAAtHl := ⟨rfl, Nat.le_of_ble_eq_true rfl⟩
theorem addAA : Statement .addAA := ⟨rfl, Nat.le_of_ble_eq_true rfl⟩
theorem adcAB : Statement .adcAB := ⟨rfl, Nat.le_of_ble_eq_true rfl⟩
theorem adcAC : Statement .adcAC := ⟨rfl, Nat.le_of_ble_eq_true rfl⟩
theorem adcAD : Statement .adcAD := ⟨rfl, Nat.le_of_ble_eq_true rfl⟩
theorem adcAE : Statement .adcAE := ⟨rfl, Nat.le_of_ble_eq_true rfl⟩
theorem adcAH : Statement .adcAH := ⟨rfl, Nat.le_of_ble_eq_true rfl⟩
theorem adcAL : Statement .adcAL := ⟨rfl, Nat.le_of_ble_eq_true rfl⟩
theorem adcAAtHl : Statement .adcAAtHl := ⟨rfl, Nat.le_of_ble_eq_true rfl⟩
theorem adcAA : Statement .adcAA := ⟨rfl, Nat.le_of_ble_eq_true rfl⟩
theorem subB : Statement .subB := ⟨rfl, Nat.le_of_ble_eq_true rfl⟩
theorem subC : Statement .subC := ⟨rfl, Nat.le_of_ble_eq_true rfl⟩
theorem subD : Statement .subD := ⟨rfl, Nat.le_of_ble_eq_true rfl⟩
theorem subE : Statement .subE := ⟨rfl, Nat.le_of_ble_eq_true rfl⟩
theorem subH : Statement .subH := ⟨rfl, Nat.le_of_ble_eq_true rfl⟩
theorem subL : Statement .subL := ⟨rfl, Nat.le_of_ble_eq_true rfl⟩
theorem subAtHl : Statement .subAtHl := ⟨rfl, Nat.le_of_ble_eq_true rfl⟩
theorem subA : Statement .subA := ⟨rfl, Nat.le_of_ble_eq_true rfl⟩
theorem sbcAB : Statement .sbcAB := ⟨rfl, Nat.le_of_ble_eq_true rfl⟩
theorem sbcAC : Statement .sbcAC := ⟨rfl, Nat.le_of_ble_eq_true rfl⟩
theorem sbcAD : Statement .sbcAD := ⟨rfl, Nat.le_of_ble_eq_true rfl⟩
theorem sbcAE : Statement .sbcAE := ⟨rfl, Nat.le_of_ble_eq_true rfl⟩
theorem sbcAH : Statement .sbcAH := ⟨rfl, Nat.le_of_ble_eq_true rfl⟩
theorem sbcAL : Statement .sbcAL := ⟨rfl, Nat.le_of_ble_eq_true rfl⟩
theorem sbcAAtHl : Statement .sbcAAtHl := ⟨rfl, Nat.le_of_ble_eq_true rfl⟩
theorem sbcAA : Statement .sbcAA := ⟨rfl, Nat.le_of_ble_eq_true rfl⟩
theorem andB : Statement .andB := ⟨rfl, Nat.le_of_ble_eq_true rfl⟩
theorem andC : Statement .andC := ⟨rfl, Nat.le_of_ble_eq_true rfl⟩
theorem andD : Statement .andD := ⟨rfl, Nat.le_of_ble_eq_true rfl⟩
theorem andE : Statement .andE := ⟨rfl, Nat.le_of_ble_eq_true rfl⟩
theorem andH : Statement .andH := ⟨rfl, Nat.le_of_ble_eq_true rfl⟩
theorem andL : Statement .andL := ⟨rfl, Nat.le_of_ble_eq_true rfl⟩
theorem andAtHl : Statement .andAtHl := ⟨rfl, Nat.le_of_ble_eq_true rfl⟩
theorem andA : Statement .andA := ⟨rfl, Nat.le_of_ble_eq_true rfl⟩
theorem xorB : Statement .xorB := ⟨rfl, Nat.le_of_ble_eq_true rfl⟩
theorem xorC : Statement .xorC := ⟨rfl, Nat.le_of_ble_eq_true rfl⟩
theorem xorD : Statement .xorD := ⟨rfl, Nat.le_of_ble_eq_true rfl⟩
theorem xorE : Statement .xorE := ⟨rfl, Nat.le_of_ble_eq_true rfl⟩
theorem xorH : Statement .xorH := ⟨rfl, Nat.le_of_ble_eq_true rfl⟩
theorem xorL : Statement .xorL := ⟨rfl, Nat.le_of_ble_eq_true rfl⟩
theorem xorAtHl : Statement .xorAtHl := ⟨rfl, Nat.le_of_ble_eq_true rfl⟩
theorem xorA : Statement .xorA := ⟨rfl, Nat.le_of_ble_eq_true rfl⟩
theorem orB : Statement .orB := ⟨rfl, Nat.le_of_ble_eq_true rfl⟩
theorem orC : Statement .orC := ⟨rfl, Nat.le_of_ble_eq_true rfl⟩
theorem orD : Statement .orD := ⟨rfl, Nat.le_of_ble_eq_true rfl⟩
theorem orE : Statement .orE := ⟨rfl, Nat.le_of_ble_eq_true rfl⟩
theorem orH : Statement .orH := ⟨rfl, Nat.le_of_ble_eq_true rfl⟩
theorem orL : Statement .orL := ⟨rfl, Nat.le_of_ble_eq_true rfl⟩
theorem orAtHl : Statement .orAtHl := ⟨rfl, Nat.le_of_ble_eq_true rfl⟩
theorem orA : Statement .orA := ⟨rfl, Nat.le_of_ble_eq_true rfl⟩
theorem cpB : Statement .cpB := ⟨rfl, Nat.le_of_ble_eq_true rfl⟩
theorem cpC : Statement .cpC := ⟨rfl, Nat.le_of_ble_eq_true rfl⟩
theorem cpD : Statement .cpD := ⟨rfl, Nat.le_of_ble_eq_true rfl⟩
theorem cpE : Statement .cpE := ⟨rfl, Nat.le_of_ble_eq_true rfl⟩
theorem cpH : Statement .cpH := ⟨rfl, Nat.le_of_ble_eq_true rfl⟩
theorem cpL : Statement .cpL := ⟨rfl, Nat.le_of_ble_eq_true rfl⟩
theorem cpAtHl : Statement .cpAtHl := ⟨rfl, Nat.le_of_ble_eq_true rfl⟩
theorem cpA : Statement .cpA := ⟨rfl, Nat.le_of_ble_eq_true rfl⟩
theorem retNz : Statement .retNz := ⟨rfl, Nat.le_of_ble_eq_true rfl⟩
theorem popBc : Statement .popBc := ⟨rfl, Nat.le_of_ble_eq_true rfl⟩
theorem jpNzA16 (nn : Word) : Statement (.jpNzA16 nn) := ⟨rfl, Nat.le_of_ble_eq_true rfl⟩
theorem jpA16 (nn : Word) : Statement (.jpA16 nn) := ⟨rfl, Nat.le_of_ble_eq_true rfl⟩
theorem callNzA16 (nn : Word) : Statement (.callNzA16 nn) := ⟨rfl, Nat.le_of_ble_eq_true rfl⟩
theorem pushBc : Statement .pushBc := ⟨rfl, Nat.le_of_ble_eq_true rfl⟩
theorem addAD8 (n : Byte) : Statement (.addAD8 n) := ⟨rfl, Nat.le_of_ble_eq_true rfl⟩
theorem rst00 : Statement .rst00 := ⟨rfl, Nat.le_of_ble_eq_true rfl⟩
theorem retZ : Statement .retZ := ⟨rfl, Nat.le_of_ble_eq_true rfl⟩
theorem ret : Statement .ret := ⟨rfl, Nat.le_of_ble_eq_true rfl⟩
theorem jpZA16 (nn : Word) : Statement (.jpZA16 nn) := ⟨rfl, Nat.le_of_ble_eq_true rfl⟩
theorem prefixCb : Statement .prefixCb := ⟨rfl, Nat.le_of_ble_eq_true rfl⟩
theorem callZA16 (nn : Word) : Statement (.callZA16 nn) := ⟨rfl, Nat.le_of_ble_eq_true rfl⟩
theorem callA16 (nn : Word) : Statement (.callA16 nn) := ⟨rfl, Nat.le_of_ble_eq_true rfl⟩
theorem adcAD8 (n : Byte) : Statement (.adcAD8 n) := ⟨rfl, Nat.le_of_ble_eq_true rfl⟩
theorem rst08 : Statement .rst08 := ⟨rfl, Nat.le_of_ble_eq_true rfl⟩
theorem retNc : Statement .retNc := ⟨rfl, Nat.le_of_ble_eq_true rfl⟩
theorem popDe : Statement .popDe := ⟨rfl, Nat.le_of_ble_eq_true rfl⟩
theorem jpNcA16 (nn : Word) : Statement (.jpNcA16 nn) := ⟨rfl, Nat.le_of_ble_eq_true rfl⟩
theorem undefD3 : Statement .undefD3 := ⟨rfl, Nat.le_of_ble_eq_true rfl⟩
theorem callNcA16 (nn : Word) : Statement (.callNcA16 nn) := ⟨rfl, Nat.le_of_ble_eq_true rfl⟩
theorem pushDe : Statement .pushDe := ⟨rfl, Nat.le_of_ble_eq_true rfl⟩
theorem subD8 (n : Byte) : Statement (.subD8 n) := ⟨rfl, Nat.le_of_ble_eq_true rfl⟩
theorem rst10 : Statement .rst10 := ⟨rfl, Nat.le_of_ble_eq_true rfl⟩
theorem retC : Statement .retC := ⟨rfl, Nat.le_of_ble_eq_true rfl⟩
theorem reti : Statement .reti := ⟨rfl, Nat.le_of_ble_eq_true rfl⟩
theorem jpCA16 (nn : Word) : Statement (.jpCA16 nn) := ⟨rfl, Nat.le_of_ble_eq_true rfl⟩
theorem undefDB : Statement .undefDB := ⟨rfl, Nat.le_of_ble_eq_true rfl⟩
theorem callCA16 (nn : Word) : Statement (.callCA16 nn) := ⟨rfl, Nat.le_of_ble_eq_true rfl⟩
theorem undefDD : Statement .undefDD := ⟨rfl, Nat.le_of_ble_eq_true rfl⟩
theorem sbcAD8 (n : Byte) : Statement (.sbcAD8 n) := ⟨rfl, Nat.le_of_ble_eq_true rfl⟩
theorem rst18 : Statement .rst18 := ⟨rfl, Nat.le_of_ble_eq_true rfl⟩
theorem ldhAtA8A (n : Byte) : Statement (.ldhAtA8A n) := ⟨rfl, Nat.le_of_ble_eq_true rfl⟩
theorem popHl : Statement .popHl := ⟨rfl, Nat.le_of_ble_eq_true rfl⟩
theorem ldAtCA : Statement .ldAtCA := ⟨rfl, Nat.le_of_ble_eq_true rfl⟩
theorem undefE3 : Statement .undefE3 := ⟨rfl, Nat.le_of_ble_eq_true rfl⟩
theorem undefE4 : Statement .undefE4 := ⟨rfl, Nat.le_of_ble_eq_true rfl⟩
theorem pushHl : Statement .pushHl := ⟨rfl, Nat.le_of_ble_eq_true rfl⟩
theorem andD8 (n : Byte) : Statement (.andD8 n) := ⟨rfl, Nat.le_of_ble_eq_true rfl⟩
theorem rst20 : Statement .rst20 := ⟨rfl, Nat.le_of_ble_eq_true rfl⟩
theorem addSpR8 (e : Byte) : Statement (.addSpR8 e) := ⟨rfl, Nat.le_of_ble_eq_true rfl⟩
theorem jpAtHl : Statement .jpAtHl := ⟨rfl, Nat.le_of_ble_eq_true rfl⟩
theorem ldAtA16A (nn : Word) : Statement (.ldAtA16A nn) := ⟨rfl, Nat.le_of_ble_eq_true rfl⟩
theorem undefEB : Statement .undefEB := ⟨rfl, Nat.le_of_ble_eq_true rfl⟩
theorem undefEC : Statement .undefEC := ⟨rfl, Nat.le_of_ble_eq_true rfl⟩
theorem undefED : Statement .undefED := ⟨rfl, Nat.le_of_ble_eq_true rfl⟩
theorem xorD8 (n : Byte) : Statement (.xorD8 n) := ⟨rfl, Nat.le_of_ble_eq_true rfl⟩
theorem rst28 : Statement .rst28 := ⟨rfl, Nat.le_of_ble_eq_true rfl⟩
theorem ldhAAtA8 (n : Byte) : Statement (.ldhAAtA8 n) := ⟨rfl, Nat.le_of_ble_eq_true rfl⟩
theorem popAf : Statement .popAf := ⟨rfl, Nat.le_of_ble_eq_true rfl⟩
theorem ldAAtC : Statement .ldAAtC := ⟨rfl, Nat.le_of_ble_eq_true rfl⟩
theorem di : Statement .di := ⟨rfl, Nat.le_of_ble_eq_true rfl⟩
theorem undefF4 : Statement .undefF4 := ⟨rfl, Nat.le_of_ble_eq_true rfl⟩
theorem pushAf : Statement .pushAf := ⟨rfl, Nat.le_of_ble_eq_true rfl⟩
theorem orD8 (n : Byte) : Statement (.orD8 n) := ⟨rfl, Nat.le_of_ble_eq_true rfl⟩
theorem rst30 : Statement .rst30 := ⟨rfl, Nat.le_of_ble_eq_true rfl⟩
theorem ldHlSpR8 (e : Byte) : Statement (.ldHlSpR8 e) := ⟨rfl, Nat.le_of_ble_eq_true rfl⟩
theorem ldSpHl : Statement .ldSpHl := ⟨rfl, Nat.le_of_ble_eq_true rfl⟩
theorem ldAAtA16 (nn : Word) : Statement (.ldAAtA16 nn) := ⟨rfl, Nat.le_of_ble_eq_true rfl⟩
theorem ei : Statement .ei := ⟨rfl, Nat.le_of_ble_eq_true rfl⟩
theorem undefFC : Statement .undefFC := ⟨rfl, Nat.le_of_ble_eq_true rfl⟩
theorem undefFD : Statement .undefFD := ⟨rfl, Nat.le_of_ble_eq_true rfl⟩
theorem cpD8 (n : Byte) : Statement (.cpD8 n) := ⟨rfl, Nat.le_of_ble_eq_true rfl⟩
theorem rst38 : Statement .rst38 := ⟨rfl, Nat.le_of_ble_eq_true rfl⟩
theorem rlcB : Statement .rlcB := ⟨rfl, Nat.le_of_ble_eq_true rfl⟩
theorem rlcC : Statement .rlcC := ⟨rfl, Nat.le_of_ble_eq_true rfl⟩
theorem rlcD : Statement .rlcD := ⟨rfl, Nat.le_of_ble_eq_true rfl⟩
theorem rlcE : Statement .rlcE := ⟨rfl, Nat.le_of_ble_eq_true rfl⟩
theorem rlcH : Statement .rlcH := ⟨rfl, Nat.le_of_ble_eq_true rfl⟩
theorem rlcL : Statement .rlcL := ⟨rfl, Nat.le_of_ble_eq_true rfl⟩
theorem rlcAtHl : Statement .rlcAtHl := ⟨rfl, Nat.le_of_ble_eq_true rfl⟩
theorem rlcA : Statement .rlcA := ⟨rfl, Nat.le_of_ble_eq_true rfl⟩
theorem rrcB : Statement .rrcB := ⟨rfl, Nat.le_of_ble_eq_true rfl⟩
theorem rrcC : Statement .rrcC := ⟨rfl, Nat.le_of_ble_eq_true rfl⟩
theorem rrcD : Statement .rrcD := ⟨rfl, Nat.le_of_ble_eq_true rfl⟩
theorem rrcE : Statement .rrcE := ⟨rfl, Nat.le_of_ble_eq_true rfl⟩
theorem rrcH : Statement .rrcH := ⟨rfl, Nat.le_of_ble_eq_true rfl⟩
theorem rrcL : Statement .rrcL := ⟨rfl, Nat.le_of_ble_eq_true rfl⟩
theorem rrcAtHl : Statement .rrcAtHl := ⟨rfl, Nat.le_of_ble_eq_true rfl⟩
theorem rrcA : Statement .rrcA := ⟨rfl, Nat.le_of_ble_eq_true rfl⟩
theorem rlB : Statement .rlB := ⟨rfl, Nat.le_of_ble_eq_true rfl⟩
theorem rlC : Statement .rlC := ⟨rfl, Nat.le_of_ble_eq_true rfl⟩
theorem rlD : Statement .rlD := ⟨rfl, Nat.le_of_ble_eq_true rfl⟩
theorem rlE : Statement .rlE := ⟨rfl, Nat.le_of_ble_eq_true rfl⟩
theorem rlH : Statement .rlH := ⟨rfl, Nat.le_of_ble_eq_true rfl⟩
theorem rlL : Statement .rlL := ⟨rfl, Nat.le_of_ble_eq_true rfl⟩
theorem rlAtHl : Statement .rlAtHl := ⟨rfl, Nat.le_of_ble_eq_true rfl⟩
theorem rlA : Statement .rlA := ⟨rfl, Nat.le_of_ble_eq_true rfl⟩
theorem rrB : Statement .rrB := ⟨rfl, Nat.le_of_ble_eq_true rfl⟩
theorem rrC : Statement .rrC := ⟨rfl, Nat.le_of_ble_eq_true rfl⟩
theorem rrD : Statement .rrD := ⟨rfl, Nat.le_of_ble_eq_true rfl⟩
theorem rrE : Statement .rrE := ⟨rfl, Nat.le_of_ble_eq_true rfl⟩
theorem rrH : Statement .rrH := ⟨rfl, Nat.le_of_ble_eq_true rfl⟩
theorem rrL : Statement .rrL := ⟨rfl, Nat.le_of_ble_eq_true rfl⟩
theorem rrAtHl : Statement .rrAtHl := ⟨rfl, Nat.le_of_ble_eq_true rfl⟩
theorem rrA : Statement .rrA := ⟨rfl, Nat.le_of_ble_eq_true rfl⟩
theorem slaB : Statement .slaB := ⟨rfl, Nat.le_of_ble_eq_true rfl⟩
theorem slaC : Statement .slaC := ⟨rfl, Nat.le_of_ble_eq_true rfl⟩
theorem slaD : Statement .slaD := ⟨rfl, Nat.le_of_ble_eq_true rfl⟩
theorem slaE : Statement .slaE := ⟨rfl, Nat.le_of_ble_eq_true rfl⟩
theorem slaH : Statement .slaH := ⟨rfl, Nat.le_of_ble_eq_true rfl⟩
theorem slaL : Statement .slaL := ⟨rfl, Nat.le_of_ble_eq_true rfl⟩
theorem slaAtHl : Statement .slaAtHl := ⟨rfl, Nat.le_of_ble_eq_true rfl⟩
theorem slaA : Statement .slaA := ⟨rfl, Nat.le_of_ble_eq_true rfl⟩
theorem sraB : Statement .sraB := ⟨rfl, Nat.le_of_ble_eq_true rfl⟩
theorem sraC : Statement .sraC := ⟨rfl, Nat.le_of_ble_eq_true rfl⟩
theorem sraD : Statement .sraD := ⟨rfl, Nat.le_of_ble_eq_true rfl⟩
theorem sraE : Statement .sraE := ⟨rfl, Nat.le_of_ble_eq_true rfl⟩
theorem sraH : Statement .sraH := ⟨rfl, Nat.le_of_ble_eq_true rfl⟩
theorem sraL : Statement .sraL := ⟨rfl, Nat.le_of_ble_eq_true rfl⟩
theorem sraAtHl : Statement .sraAtHl := ⟨rfl, Nat.le_of_ble_eq_true rfl⟩
theorem sraA : Statement .sraA := ⟨rfl, Nat.le_of_ble_eq_true rfl⟩
theorem swapB : Statement .swapB := ⟨rfl, Nat.le_of_ble_eq_true rfl⟩
theorem swapC : Statement .swapC := ⟨rfl, Nat.le_of_ble_eq_true rfl⟩
theorem swapD : Statement .swapD := ⟨rfl, Nat.le_of_ble_eq_true rfl⟩
theorem swapE : Statement .swapE := ⟨rfl, Nat.le_of_ble_eq_true rfl⟩
theorem swapH : Statement .swapH := ⟨rfl, Nat.le_of_ble_eq_true rfl⟩
theorem swapL : Statement .swapL := ⟨rfl, Nat.le_of_ble_eq_true rfl⟩
theorem swapAtHl : Statement .swapAtHl := ⟨rfl, Nat.le_of_ble_eq_true rfl⟩
theorem swapA : Statement .swapA := ⟨rfl, Nat.le_of_ble_eq_true rfl⟩
theorem srlB : Statement .srlB := ⟨rfl, Nat.le_of_ble_eq_true rfl⟩
theorem srlC : Statement .srlC := ⟨rfl, Nat.le_of_ble_eq_true rfl⟩
theorem srlD : Statement .srlD := ⟨rfl, Nat.le_of_ble_eq_true rfl⟩
theorem srlE : Statement .srlE := ⟨rfl, Nat.le_of_ble_eq_true rfl⟩
theorem srlH : Statement .srlH := ⟨rfl, Nat.le_of_ble_eq_true rfl⟩
theorem srlL : Statement .srlL := ⟨rfl, Nat.le_of_ble_eq_true rfl⟩
theorem srlAtHl : Statement .srlAtHl := ⟨rfl, Nat.le_of_ble_eq_true rfl⟩
theorem srlA : Statement .srlA := ⟨rfl, Nat.le_of_ble_eq_true rfl⟩
theorem bit0B : Statement .bit0B := ⟨rfl, Nat.le_of_ble_eq_true rfl⟩
theorem bit0C : Statement .bit0C := ⟨rfl, Nat.le_of_ble_eq_true rfl⟩
theorem bit0D : Statement .bit0D := ⟨rfl, Nat.le_of_ble_eq_true rfl⟩
theorem bit0E : Statement .bit0E := ⟨rfl, Nat.le_of_ble_eq_true rfl⟩
theorem bit0H : Statement .bit0H := ⟨rfl, Nat.le_of_ble_eq_true rfl⟩
theorem bit0L : Statement .bit0L := ⟨rfl, Nat.le_of_ble_eq_true rfl⟩
theorem bit0AtHl : Statement .bit0AtHl := ⟨rfl, Nat.le_of_ble_eq_true rfl⟩
theorem bit0A : Statement .bit0A := ⟨rfl, Nat.le_of_ble_eq_true rfl⟩
theorem bit1B : Statement .bit1B := ⟨rfl, Nat.le_of_ble_eq_true rfl⟩
theorem bit1C : Statement .bit1C := ⟨rfl, Nat.le_of_ble_eq_true rfl⟩
theorem bit1D : Statement .bit1D := ⟨rfl, Nat.le_of_ble_eq_true rfl⟩
theorem bit1E : Statement .bit1E := ⟨rfl, Nat.le_of_ble_eq_true rfl⟩
theorem bit1H : Statement .bit1H := ⟨rfl, Nat.le_of_ble_eq_true rfl⟩
theorem bit1L : Statement .bit1L := ⟨rfl, Nat.le_of_ble_eq_true rfl⟩
theorem bit1AtHl : Statement .bit1AtHl := ⟨rfl, Nat.le_of_ble_eq_true rfl⟩
theorem bit1A : Statement .bit1A := ⟨rfl, Nat.le_of_ble_eq_true rfl⟩
theorem bit2B : Statement .bit2B := ⟨rfl, Nat.le_of_ble_eq_true rfl⟩
theorem bit2C : Statement .bit2C := ⟨rfl, Nat.le_of_ble_eq_true rfl⟩
theorem bit2D : Statement .bit2D := ⟨rfl, Nat.le_of_ble_eq_true rfl⟩
theorem bit2E : Statement .bit2E := ⟨rfl, Nat.le_of_ble_eq_true rfl⟩
theorem bit2H : Statement .bit2H := ⟨rfl, Nat.le_of_ble_eq_true rfl⟩
theorem bit2L : Statement .bit2L := ⟨rfl, Nat.le_of_ble_eq_true rfl⟩
theorem bit2AtHl : Statement .bit2AtHl := ⟨rfl, Nat.le_of_ble_eq_true rfl⟩
theorem bit2A : Statement .bit2A := ⟨rfl, Nat.le_of_ble_eq_true rfl⟩
theorem bit3B : Statement .bit3B := ⟨rfl, Nat.le_of_ble_eq_true rfl⟩
theorem bit3C : Statement .bit3C := ⟨rfl, Nat.le_of_ble_eq_true rfl⟩
theorem bit3D : Statement .bit3D := ⟨rfl, Nat.le_of_ble_eq_true rfl⟩
theorem bit3E : Statement .bit3E := ⟨rfl, Nat.le_of_ble_eq_true rfl⟩
theorem bit3H : Statement .bit3H := ⟨rfl, Nat.le_of_ble_eq_true rfl⟩
theorem bit3L : Statement .bit3L := ⟨rfl, Nat.le_of_ble_eq_true rfl⟩
theorem bit3AtHl : Statement .bit3AtHl := ⟨rfl, Nat.le_of_ble_eq_true rfl⟩
theorem bit3A : Statement .bit3A := ⟨rfl, Nat.le_of_ble_eq_true rfl⟩
theorem bit4B : Statement .bit4B := ⟨rfl, Nat.le_of_ble_eq_true rfl⟩
theorem bit4C : Statement .bit4C := ⟨rfl, Nat.le_of_ble_eq_true rfl⟩
theorem bit4D : Statement .bit4D := ⟨rfl, Nat.le_of_ble_eq_true rfl⟩
theorem bit4E : Statement .bit4E := ⟨rfl, Nat.le_of_ble_eq_true rfl⟩
theorem bit4H : Statement .bit4H := ⟨rfl, Nat.le_of_ble_eq_true rfl⟩
theorem bit4L : Statement .bit4L := ⟨rfl, Nat.le_of_ble_eq_true rfl⟩
theorem bit4AtHl : Statement .bit4AtHl := ⟨rfl, Nat.le_of_ble_eq_true rfl⟩
theorem bit4A : Statement .bit4A := ⟨rfl, Nat.le_of_ble_eq_true rfl⟩
theorem bit5B : Statement .bit5B := ⟨rfl, Nat.le_of_ble_eq_true rfl⟩
theorem bit5C : Statement .bit5C := ⟨rfl, Nat.le_of_ble_eq_true rfl⟩
theorem bit5D : Statement .bit5D := ⟨rfl, Nat.le_of_ble_eq_true rfl⟩
theorem bit5E : Statement .bit5E := ⟨rfl, Nat.le_of_ble_eq_true rfl⟩
theorem bit5H : Statement .bit5H := ⟨rfl, Nat.le_of_ble_eq_true rfl⟩
theorem bit5L : Statement .bit5L := ⟨rfl, Nat.le_of_ble_eq_true rfl⟩
theorem bit5AtHl : Statement .bit5AtHl := ⟨rfl, Nat.le_of_ble_eq_true rfl⟩
theorem bit5A : Statement .bit5A := ⟨rfl, Nat.le_of_ble_eq_true rfl⟩
theorem bit6B : Statement .bit6B := ⟨rfl, Nat.le_of_ble_eq_true rfl⟩
theorem bit6C : Statement .bit6C := ⟨rfl, Nat.le_of_ble_eq_true rfl⟩
theorem bit6D : Statement .bit6D := ⟨rfl, Nat.le_of_ble_eq_true rfl⟩
theorem bit6E : Statement .bit6E := ⟨rfl, Nat.le_of_ble_eq_true rfl⟩
theorem bit6H : Statement .bit6H := ⟨rfl, Nat.le_of_ble_eq_true rfl⟩
theorem bit6L : Statement .bit6L := ⟨rfl, Nat.le_of_ble_eq_true rfl⟩
theorem bit6AtHl : Statement .bit6AtHl := ⟨rfl, Nat.le_of_ble_eq_true rfl⟩
theorem bit6A : Statement .bit6A := ⟨rfl, Nat.le_of_ble_eq_true rfl⟩
theorem bit7B : Statement .bit7B := ⟨rfl, Nat.le_of_ble_eq_true rfl⟩
theorem bit7C : Statement .bit7C := ⟨rfl, Nat.le_of_ble_eq_true rfl⟩
theorem bit7D : Statement .bit7D := ⟨rfl, Nat.le_of_ble_eq_true rfl⟩
theorem bit7E : Statement .bit7E := ⟨rfl, Nat.le_of_ble_eq_true rfl⟩
theorem bit7H : Statement .bit7H := ⟨rfl, Nat.le_of_ble_eq_true rfl⟩
theorem bit7L : Statement .bit7L := ⟨rfl, Nat.le_of_ble_eq_true rfl⟩
theorem bit7AtHl : Statement .bit7AtHl := ⟨rfl, Nat.le_of_ble_eq_true rfl⟩
theorem bit7A : Statement .bit7A := ⟨rfl, Nat.le_of_ble_eq_true rfl⟩
theorem res0B : Statement .res0B := ⟨rfl, Nat.le_of_ble_eq_true rfl⟩
theorem res0C : Statement .res0C := ⟨rfl, Nat.le_of_ble_eq_true rfl⟩
theorem res0D : Statement .res0D := ⟨rfl, Nat.le_of_ble_eq_true rfl⟩
theorem res0E : Statement .res0E := ⟨rfl, Nat.le_of_ble_eq_true rfl⟩
theorem res0H : Statement .res0H := ⟨rfl, Nat.le_of_ble_eq_true rfl⟩
theorem res0L : Statement .res0L := ⟨rfl, Nat.le_of_ble_eq_true rfl⟩
theorem res0AtHl : Statement .res0AtHl := ⟨rfl, Nat.le_of_ble_eq_true rfl⟩
theorem res0A : Statement .res0A := ⟨rfl, Nat.le_of_ble_eq_true rfl⟩
theorem res1B : Statement .res1B := ⟨rfl, Nat.le_of_ble_eq_true rfl⟩
theorem res1C : Statement .res1C := ⟨rfl, Nat.le_of_ble_eq_true rfl⟩
theorem res1D : Statement .res1D := ⟨rfl, Nat.le_of_ble_eq_true rfl⟩
theorem res1E : Statement .res1E := ⟨rfl, Nat.le_of_ble_eq_true rfl⟩
theorem res1H : Statement .res1H := ⟨rfl, Nat.le_of_ble_eq_true rfl⟩
theorem res1L : Statement .res1L := ⟨rfl, Nat.le_of_ble_eq_true rfl⟩
theorem res1AtHl : Statement .res1AtHl := ⟨rfl, Nat.le_of_ble_eq_true rfl⟩
theorem res1A : Statement .res1A := ⟨rfl, Nat.le_of_ble_eq_true rfl⟩
theorem res2B : Statement .res2B := ⟨rfl, Nat.le_of_ble_eq_true rfl⟩
theorem res2C : Statement .res2C := ⟨rfl, Nat.le_of_ble_eq_true rfl⟩
theorem res2D : Statement .res2D := ⟨rfl, Nat.le_of_ble_eq_true rfl⟩
theorem res2E : Statement .res2E := ⟨rfl, Nat.le_of_ble_eq_true rfl⟩
theorem res2H : Statement .res2H := ⟨rfl, Nat.le_of_ble_eq_true rfl⟩
theorem res2L : Statement .res2L := ⟨rfl, Nat.le_of_ble_eq_true rfl⟩
theorem res2AtHl : Statement .res2AtHl := ⟨rfl, Nat.le_of_ble_eq_true rfl⟩
theorem res2A : Statement .res2A := ⟨rfl, Nat.le_of_ble_eq_true rfl⟩
theorem res3B : Statement .res3B := ⟨rfl, Nat.le_of_ble_eq_true rfl⟩
theorem res3C : Statement .res3C := ⟨rfl, Nat.le_of_ble_eq_true rfl⟩
theorem res3D : Statement .res3D := ⟨rfl, Nat.le_of_ble_eq_true rfl⟩
theorem res3E : Statement .res3E := ⟨rfl, Nat.le_of_ble_eq_true rfl⟩
theorem res3H : Statement .res3H := ⟨rfl, Nat.le_of_ble_eq_true rfl⟩
theorem res3L : Statement .res3L := ⟨rfl, Nat.le_of_ble_eq_true rfl⟩
theorem res3AtHl : Statement .res3AtHl := ⟨rfl, Nat.le_of_ble_eq_true rfl⟩
theorem res3A : Statement .res3A := ⟨rfl, Nat.le_of_ble_eq_true rfl⟩
theorem res4B : Statement .res4B := ⟨rfl, Nat.le_of_ble_eq_true rfl⟩
theorem res4C : Statement .res4C := ⟨rfl, Nat.le_of_ble_eq_true rfl⟩
theorem res4D : Statement .res4D := ⟨rfl, Nat.le_of_ble_eq_true rfl⟩
theorem res4E : Statement .res4E := ⟨rfl, Nat.le_of_ble_eq_true rfl⟩
theorem res4H : Statement .res4H := ⟨rfl, Nat.le_of_ble_eq_true rfl⟩
theorem res4L : Statement .res4L := ⟨rfl, Nat.le_of_ble_eq_true rfl⟩
theorem res4AtHl : Statement .res4AtHl := ⟨rfl, Nat.le_of_ble_eq_true rfl⟩
theorem res4A : Statement .res4A := ⟨rfl, Nat.le_of_ble_eq_true rfl⟩
theorem res5B : Statement .res5B := ⟨rfl, Nat.le_of_ble_eq_true rfl⟩
theorem res5C : Statement .res5C := ⟨rfl, Nat.le_of_ble_eq_true rfl⟩
theorem res5D : Statement .res5D := ⟨rfl, Nat.le_of_ble_eq_true rfl⟩
theorem res5E : Statement .res5E := ⟨rfl, Nat.le_of_ble_eq_true rfl⟩
theorem res5H : Statement .res5H := ⟨rfl, Nat.le_of_ble_eq_true rfl⟩
theorem res5L : Statement .res5L := ⟨rfl, Nat.le_of_ble_eq_true rfl⟩
theorem res5AtHl : Statement .res5AtHl := ⟨rfl, Nat.le_of_ble_eq_true rfl⟩
theorem res5A : Statement .res5A := ⟨rfl, Nat.le_of_ble_eq_true rfl⟩
theorem res6B : Statement .res6B := ⟨rfl, Nat.le_of_ble_eq_true rfl⟩
theorem res6C : Statement .res6C := ⟨rfl, Nat.le_of_ble_eq_true rfl⟩
theorem res6D : Statement .res6D := ⟨rfl, Nat.le_of_ble_eq_true rfl⟩
theorem res6E : Statement .res6E := ⟨rfl, Nat.le_of_ble_eq_true rfl⟩
theorem res6H : Statement .res6H := ⟨rfl, Nat.le_of_ble_eq_true rfl⟩
theorem res6L : Statement .res6L := ⟨rfl, Nat.le_of_ble_eq_true rfl⟩
theorem res6AtHl : Statement .res6AtHl := ⟨rfl, Nat.le_of_ble_eq_true rfl⟩
theorem res6A : Statement .res6A := ⟨rfl, Nat.le_of_ble_eq_true rfl⟩
theorem res7B : Statement .res7B := ⟨rfl, Nat.le_of_ble_eq_true rfl⟩
theorem res7C : Statement .res7C := ⟨rfl, Nat.le_of_ble_eq_true rfl⟩
theorem res7D : Statement .res7D := ⟨rfl, Nat.le_of_ble_eq_true rfl⟩
theorem res7E : Statement .res7E := ⟨rfl, Nat.le_of_ble_eq_true rfl⟩
theorem res7H : Statement .res7H := ⟨rfl, Nat.le_of_ble_eq_true rfl⟩
theorem res7L : Statement .res7L := ⟨rfl, Nat.le_of_ble_eq_true rfl⟩
theorem res7AtHl : Statement .res7AtHl := ⟨rfl, Nat.le_of_ble_eq_true rfl⟩
theorem res7A : Statement .res7A := ⟨rfl, Nat.le_of_ble_eq_true rfl⟩
theorem set0B : Statement .set0B := ⟨rfl, Nat.le_of_ble_eq_true rfl⟩
theorem set0C : Statement .set0C := ⟨rfl, Nat.le_of_ble_eq_true rfl⟩
theorem set0D : Statement .set0D := ⟨rfl, Nat.le_of_ble_eq_true rfl⟩
theorem set0E : Statement .set0E := ⟨rfl, Nat.le_of_ble_eq_true rfl⟩
theorem set0H : Statement .set0H := ⟨rfl, Nat.le_of_ble_eq_true rfl⟩
theorem set0L : Statement .set0L := ⟨rfl, Nat.le_of_ble_eq_true rfl⟩
theorem set0AtHl : Statement .set0AtHl := ⟨rfl, Nat.le_of_ble_eq_true rfl⟩
theorem set0A : Statement .set0A := ⟨rfl, Nat.le_of_ble_eq_true rfl⟩
theorem set1B : Statement .set1B := ⟨rfl, Nat.le_of_ble_eq_true rfl⟩
theorem set1C : Statement .set1C := ⟨rfl, Nat.le_of_ble_eq_true rfl⟩
theorem set1D : Statement .set1D := ⟨rfl, Nat.le_of_ble_eq_true rfl⟩
theorem set1E : Statement .set1E := ⟨rfl, Nat.le_of_ble_eq_true rfl⟩
theorem set1H : Statement .set1H := ⟨rfl, Nat.le_of_ble_eq_true rfl⟩
theorem set1L : Statement .set1L := ⟨rfl, Nat.le_of_ble_eq_true rfl⟩
theorem set1AtHl : Statement .set1AtHl := ⟨rfl, Nat.le_of_ble_eq_true rfl⟩
theorem set1A : Statement .set1A := ⟨rfl, Nat.le_of_ble_eq_true rfl⟩
theorem set2B : Statement .set2B := ⟨rfl, Nat.le_of_ble_eq_true rfl⟩
theorem set2C : Statement .set2C := ⟨rfl, Nat.le_of_ble_eq_true rfl⟩
theorem set2D : Statement .set2D := ⟨rfl, Nat.le_of_ble_eq_true rfl⟩
theorem set2E : Statement .set2E := ⟨rfl, Nat.le_of_ble_eq_true rfl⟩
theorem set2H : Statement .set2H := ⟨rfl, Nat.le_of_ble_eq_true rfl⟩
theorem set2L : Statement .set2L := ⟨rfl, Nat.le_of_ble_eq_true rfl⟩
theorem set2AtHl : Statement .set2AtHl := ⟨rfl, Nat.le_of_ble_eq_true rfl⟩
theorem set2A : Statement .set2A := ⟨rfl, Nat.le_of_ble_eq_true rfl⟩
theorem set3B : Statement .set3B := ⟨rfl, Nat.le_of_ble_eq_true rfl⟩
theorem set3C : Statement .set3C := ⟨rfl, Nat.le_of_ble_eq_true rfl⟩
theorem set3D : Statement .set3D := ⟨rfl, Nat.le_of_ble_eq_true rfl⟩
theorem set3E : Statement .set3E := ⟨rfl, Nat.le_of_ble_eq_true rfl⟩
theorem set3H : Statement .set3H := ⟨rfl, Nat.le_of_ble_eq_true rfl⟩
theorem set3L : Statement .set3L := ⟨rfl, Nat.le_of_ble_eq_true rfl⟩
theorem set3AtHl : Statement .set3AtHl := ⟨rfl, Nat.le_of_ble_eq_true rfl⟩
theorem set3A : Statement .set3A := ⟨rfl, Nat.le_of_ble_eq_true rfl⟩
theorem set4B : Statement .set4B := ⟨rfl, Nat.le_of_ble_eq_true rfl⟩
theorem set4C : Statement .set4C := ⟨rfl, Nat.le_of_ble_eq_true rfl⟩
theorem set4D : Statement .set4D := ⟨rfl, Nat.le_of_ble_eq_true rfl⟩
theorem set4E : Statement .set4E := ⟨rfl, Nat.le_of_ble_eq_true rfl⟩
theorem set4H : Statement .set4H := ⟨rfl, Nat.le_of_ble_eq_true rfl⟩
theorem set4L : Statement .set4L := ⟨rfl, Nat.le_of_ble_eq_true rfl⟩
theorem set4AtHl : Statement .set4AtHl := ⟨rfl, Nat.le_of_ble_eq_true rfl⟩
theorem set4A : Statement .set4A := ⟨rfl, Nat.le_of_ble_eq_true rfl⟩
theorem set5B : Statement .set5B := ⟨rfl, Nat.le_of_ble_eq_true rfl⟩
theorem set5C : Statement .set5C := ⟨rfl, Nat.le_of_ble_eq_true rfl⟩
theorem set5D : Statement .set5D := ⟨rfl, Nat.le_of_ble_eq_true rfl⟩
theorem set5E : Statement .set5E := ⟨rfl, Nat.le_of_ble_eq_true rfl⟩
theorem set5H : Statement .set5H := ⟨rfl, Nat.le_of_ble_eq_true rfl⟩
theorem set5L : Statement .set5L := ⟨rfl, Nat.le_of_ble_eq_true rfl⟩
theorem set5AtHl : Statement .set5AtHl := ⟨rfl, Nat.le_of_ble_eq_true rfl⟩
theorem set5A : Statement .set5A := ⟨rfl, Nat.le_of_ble_eq_true rfl⟩
theorem set6B : Statement .set6B := ⟨rfl, Nat.le_of_ble_eq_true rfl⟩
theorem set6C : Statement .set6C := ⟨rfl, Nat.le_of_ble_eq_true rfl⟩
theorem set6D : Statement .set6D := ⟨rfl, Nat.le_of_ble_eq_true rfl⟩
theorem set6E : Statement .set6E := ⟨rfl, Nat.le_of_ble_eq_true rfl⟩
theorem set6H : Statement .set6H := ⟨rfl, Nat.le_of_ble_eq_true rfl⟩
theorem set6L : Statement .set6L := ⟨rfl, Nat.le_of_ble_eq_true rfl⟩
theorem set6AtHl : Statement .set6AtHl := ⟨rfl, Nat.le_of_ble_eq_true rfl⟩
theorem set6A : Statement .set6A := ⟨rfl, Nat.le_of_ble_eq_true rfl⟩
theorem set7B : Statement .set7B := ⟨rfl, Nat.le_of_ble_eq_true rfl⟩
theorem set7C : Statement .set7C := ⟨rfl, Nat.le_of_ble_eq_true rfl⟩
theorem set7D : Statement .set7D := ⟨rfl, Nat.le_of_ble_eq_true rfl⟩
theorem set7E : Statement .set7E := ⟨rfl, Nat.le_of_ble_eq_true rfl⟩
theorem set7H : Statement .set7H := ⟨rfl, Nat.le_of_ble_eq_true rfl⟩
theorem set7L : Statement .set7L := ⟨rfl, Nat.le_of_ble_eq_true rfl⟩
theorem set7AtHl : Statement .set7AtHl := ⟨rfl, Nat.le_of_ble_eq_true rfl⟩
theorem set7A : Statement .set7A := ⟨rfl, Nat.le_of_ble_eq_true rfl⟩

end Sys2Proof.Laws.EncodedLength
end

