-- ==== Sys2Proof/Tests/Slice0.lean ====
section
/-! SUPPORT. The model's own tests, each about one word or one step, with expected results from the spec: the grids of 30_encoding.md
(test_words), the worked examples S3 to S11 and the vectors V1 to V216 of 95_test_vectors.md (test_step, test_host); and for
each obligation with hypotheses a state and operands that meet them (witness). -/

open Sys2Proof Sys2Proof.Machine

namespace Sys2Proof.Tests

set_option Elab.async false

/-! ### Small states -/

/-- The start state of 95_test_vectors.md section 1 with a blank 32 KB image: power-on, `PC` at 0xC000, bytes stored there. -/
def code (bs : List Byte) : State :=
  { State.powerOn Image.blank [] with
    pc := 0xC000
    ram := Cells.writeAll (State.powerOn Image.blank []).ram (Cells.run 0xC000 bs) }

/-- A RAM cell set. -/
def poke (s : State) (a : Nat) (v : Byte) : State := { s with ram := Cells.write s.ram a v }

/-- HL set to an address of 95_test_vectors.md. -/
def hlAt (s : State) (w : Word) : State := { s with h := hiByte w, l := loByte w }

/-- What a result holds when it is a next state. -/
def after {α : Type} (r : Result) (f : State → α) : Option α :=
  match r with
  | .next t => some (f t)
  | .fault _ => none
  | .refused _ => none

/-- A RAM cell. -/
def State.cell (s : State) (a : Nat) : Byte := Cells.read s.ram a

/-- The instructions of the sixteen words `pre`, a byte with high nibble `k`, 0x34, 0x12. -/
def words (pre : List Byte) (k : Nat) : List Instr :=
  (nibbleRow k).filterMap fun b =>
    match decode (pre ++ [b, 0x34, 0x12]) with
    | .ok (i, _) => some i
    | .error _ => none

/-- The fault record of a failed access. -/
def errorOf {α : Type} (x : Except FaultRecord α) : Option FaultRecord :=
  match x with
  | .ok _ => none
  | .error r => some r

theorem ok_of {ε α : Type} {x : Except ε α} {v : α} (h : x.toOption = some v) : x = .ok v := by
  cases x with
  | ok w => exact congrArg Except.ok (Option.some.inj h)
  | error e => nomatch h

theorem exists_ok {ε α : Type} {x : Except ε α} (h : x.toOption.isSome = true) : ∃ v, x = .ok v := by
  cases x with
  | ok w => exact ⟨w, rfl⟩
  | error e => nomatch h

theorem error_of {α : Type} {x : Except FaultRecord α} {r : FaultRecord} (h : errorOf x = some r) : x = .error r := by
  cases x with
  | ok w => nomatch h
  | error e => exact congrArg Except.error (Option.some.inj h)

theorem exists_ok_ok {ε α β : Type} {x : Except ε α} {g : α → Except ε β}
    (h : (x.toOption.bind fun v => (g v).toOption).isSome = true) : ∃ v w, x = .ok v ∧ g v = .ok w := by
  cases x with
  | ok v => exact ⟨v, (exists_ok h).choose, rfl, (exists_ok h).choose_spec⟩
  | error e => nomatch h

theorem exists_ok_error {α β : Type} {x : Except FaultRecord α} {g : α → Except FaultRecord β} {r : FaultRecord}
    (h : (x.toOption.bind fun v => errorOf (g v)) = some r) : ∃ v, x = .ok v ∧ g v = .error r := by
  cases x with
  | ok v => exact ⟨v, rfl, error_of h⟩
  | error e => nomatch h

/-! ### WellFormed: an ill-formed term for each check -/

theorem test_wellFormed_refuses_bare_prefix : Instr.prefixCb.WellFormed = false := rfl
theorem test_hasHandler_refuses_bare_prefix : Instr.prefixCb.HasHandler = false := rfl
theorem test_hasHandler_refuses_hole : Instr.undefD3.HasHandler = false := rfl
theorem test_wellFormed_accepts : Instr.undefD3.WellFormed = true ∧ Instr.set7A.HasHandler = true := ⟨rfl, rfl⟩
theorem test_decode_refuses_no_bytes : (decode []).isOk = false ∧ (decode [0x01, 0x02]).isOk = false := ⟨rfl, rfl⟩

/-! ### Words, field by field (30_encoding.md R84, R85) -/

theorem test_word_ld_r_r : decode [0b01010001] = .ok (.ldDC, []) := rfl          -- 01 dst=D 010 src=C 001
theorem test_word_ld_rr_d16 : decode [0b00100001, 0x34, 0x12] = .ok (.ldHlD16 0x1234, []) := rfl -- 00 rr=HL 10 0001
theorem test_word_alu_r : decode [0b10011101] = .ok (.sbcAL, []) := rfl          -- 10 alu=SBC 011 src=L 101
theorem test_word_alu_d8 : decode [0b11111110, 0x2F] = .ok (.cpD8 0x2F, []) := rfl -- 11 alu=CP 111 110
theorem test_word_add_hl : decode [0b00111001] = .ok (.addHlSp, []) := rfl       -- 00 rr=SP 11 1001
theorem test_word_pop_af : decode [0b11110001] = .ok (.popAf, []) := rfl         -- 11 rr2=AF 11 0001
theorem test_word_jp_cc : decode [0b11010010, 0x00, 0xD0] = .ok (.jpNcA16 0xD000, []) := rfl -- 110 cc=NC 10 010
theorem test_word_rst : decode [0b11011111] = .ok (.rst18, []) := rfl            -- 11 n=3 111
theorem test_word_rra : decode [0x1F] = .ok (.rra, []) := rfl
theorem test_word_halt : decode [0x76] = .ok (.halt, []) := rfl
theorem test_word_cb_rot : decode [0xCB, 0b00011100] = .ok (.rrH, []) := rfl     -- 00 rot=RR 011 reg=H 100
theorem test_word_cb_bit : decode [0xCB, 0b01111110] = .ok (.bit7AtHl, []) := rfl -- 01 bit=7 111 reg=(HL) 110
theorem test_word_cb_res : decode [0xCB, 0b10001000] = .ok (.res1B, []) := rfl   -- 10 bit=1 001 reg=B 000
theorem test_word_hole : decode [0xED] = .ok (.undefED, []) := rfl
theorem test_table_word_8 : decodeTableWord 8 0xCB = some .prefixCb := by decide +kernel
theorem test_table_word_16 : decodeTableWord 16 0xCB7C = some .bit7H := by decide +kernel
theorem test_fetch_word : after (step (State.reset.withFetchWord 8 0x3C)) (fun t => (t.a, t.pc)) = some (0x02, 0x0101) := by
  decide +kernel

/-! ### Every constructor's word, row by row (30_encoding.md R87, R88) -/

theorem test_words_0x : words [] 0 =
  [.nop, .ldBcD16 0x1234, .ldAtBcA, .incBc, .incB, .decB, .ldBD8 0x34, .rlca, .ldAtA16Sp 0x1234, .addHlBc, .ldAAtBc,
   .decBc, .incC, .decC, .ldCD8 0x34, .rrca] := by decide +kernel
theorem test_words_1x : words [] 1 =
  [.stop 0x34, .ldDeD16 0x1234, .ldAtDeA, .incDe, .incD, .decD, .ldDD8 0x34, .rla, .jrR8 0x34, .addHlDe, .ldAAtDe,
   .decDe, .incE, .decE, .ldED8 0x34, .rra] := by decide +kernel
theorem test_words_2x : words [] 2 =
  [.jrNzR8 0x34, .ldHlD16 0x1234, .ldAtHliA, .incHl, .incH, .decH, .ldHD8 0x34, .daa, .jrZR8 0x34, .addHlHl, .ldAAtHli,
   .decHl, .incL, .decL, .ldLD8 0x34, .cpl] := by decide +kernel
theorem test_words_3x : words [] 3 =
  [.jrNcR8 0x34, .ldSpD16 0x1234, .ldAtHldA, .incSp, .incAtHl, .decAtHl, .ldAtHlD8 0x34, .scf, .jrCR8 0x34, .addHlSp,
   .ldAAtHld, .decSp, .incA, .decA, .ldAD8 0x34, .ccf] := by decide +kernel
theorem test_words_4x : words [] 4 =
  [.ldBB, .ldBC, .ldBD, .ldBE, .ldBH, .ldBL, .ldBAtHl, .ldBA, .ldCB, .ldCC, .ldCD, .ldCE, .ldCH, .ldCL, .ldCAtHl, .ldCA] := by decide +kernel
theorem test_words_5x : words [] 5 =
  [.ldDB, .ldDC, .ldDD, .ldDE, .ldDH, .ldDL, .ldDAtHl, .ldDA, .ldEB, .ldEC, .ldED, .ldEE, .ldEH, .ldEL, .ldEAtHl, .ldEA] := by decide +kernel
theorem test_words_6x : words [] 6 =
  [.ldHB, .ldHC, .ldHD, .ldHE, .ldHH, .ldHL, .ldHAtHl, .ldHA, .ldLB, .ldLC, .ldLD, .ldLE, .ldLH, .ldLL, .ldLAtHl, .ldLA] := by decide +kernel
theorem test_words_7x : words [] 7 =
  [.ldAtHlB, .ldAtHlC, .ldAtHlD, .ldAtHlE, .ldAtHlH, .ldAtHlL, .halt, .ldAtHlA, .ldAB, .ldAC, .ldAD, .ldAE, .ldAH,
   .ldAL, .ldAAtHl, .ldAA] := by decide +kernel
theorem test_words_8x : words [] 8 =
  [.addAB, .addAC, .addAD, .addAE, .addAH, .addAL, .addAAtHl, .addAA, .adcAB, .adcAC, .adcAD, .adcAE, .adcAH, .adcAL,
   .adcAAtHl, .adcAA] := by decide +kernel
theorem test_words_9x : words [] 9 =
  [.subB, .subC, .subD, .subE, .subH, .subL, .subAtHl, .subA, .sbcAB, .sbcAC, .sbcAD, .sbcAE, .sbcAH, .sbcAL,
   .sbcAAtHl, .sbcAA] := by decide +kernel
theorem test_words_Ax : words [] 10 =
  [.andB, .andC, .andD, .andE, .andH, .andL, .andAtHl, .andA, .xorB, .xorC, .xorD, .xorE, .xorH, .xorL, .xorAtHl, .xorA] := by decide +kernel
theorem test_words_Bx : words [] 11 =
  [.orB, .orC, .orD, .orE, .orH, .orL, .orAtHl, .orA, .cpB, .cpC, .cpD, .cpE, .cpH, .cpL, .cpAtHl, .cpA] := by decide +kernel
theorem test_words_Cx : words [] 12 =
  [.retNz, .popBc, .jpNzA16 0x1234, .jpA16 0x1234, .callNzA16 0x1234, .pushBc, .addAD8 0x34, .rst00, .retZ, .ret,
   .jpZA16 0x1234, .swapH, .callZA16 0x1234, .callA16 0x1234, .adcAD8 0x34, .rst08] := by decide +kernel
theorem test_words_Dx : words [] 13 =
  [.retNc, .popDe, .jpNcA16 0x1234, .undefD3, .callNcA16 0x1234, .pushDe, .subD8 0x34, .rst10, .retC, .reti,
   .jpCA16 0x1234, .undefDB, .callCA16 0x1234, .undefDD, .sbcAD8 0x34, .rst18] := by decide +kernel
theorem test_words_Ex : words [] 14 =
  [.ldhAtA8A 0x34, .popHl, .ldAtCA, .undefE3, .undefE4, .pushHl, .andD8 0x34, .rst20, .addSpR8 0x34, .jpAtHl,
   .ldAtA16A 0x1234, .undefEB, .undefEC, .undefED, .xorD8 0x34, .rst28] := by decide +kernel
theorem test_words_Fx : words [] 15 =
  [.ldhAAtA8 0x34, .popAf, .ldAAtC, .di, .undefF4, .pushAf, .orD8 0x34, .rst30, .ldHlSpR8 0x34, .ldSpHl,
   .ldAAtA16 0x1234, .ei, .undefFC, .undefFD, .cpD8 0x34, .rst38] := by decide +kernel
theorem test_words_CB_0x : words [0xCB] 0 =
  [.rlcB, .rlcC, .rlcD, .rlcE, .rlcH, .rlcL, .rlcAtHl, .rlcA, .rrcB, .rrcC, .rrcD, .rrcE, .rrcH, .rrcL, .rrcAtHl, .rrcA] := by decide +kernel
theorem test_words_CB_1x : words [0xCB] 1 =
  [.rlB, .rlC, .rlD, .rlE, .rlH, .rlL, .rlAtHl, .rlA, .rrB, .rrC, .rrD, .rrE, .rrH, .rrL, .rrAtHl, .rrA] := by decide +kernel
theorem test_words_CB_2x : words [0xCB] 2 =
  [.slaB, .slaC, .slaD, .slaE, .slaH, .slaL, .slaAtHl, .slaA, .sraB, .sraC, .sraD, .sraE, .sraH, .sraL, .sraAtHl, .sraA] := by decide +kernel
theorem test_words_CB_3x : words [0xCB] 3 =
  [.swapB, .swapC, .swapD, .swapE, .swapH, .swapL, .swapAtHl, .swapA, .srlB, .srlC, .srlD, .srlE, .srlH, .srlL,
   .srlAtHl, .srlA] := by decide +kernel
theorem test_words_CB_4x : words [0xCB] 4 =
  [.bit0B, .bit0C, .bit0D, .bit0E, .bit0H, .bit0L, .bit0AtHl, .bit0A, .bit1B, .bit1C, .bit1D, .bit1E, .bit1H, .bit1L,
   .bit1AtHl, .bit1A] := by decide +kernel
theorem test_words_CB_5x : words [0xCB] 5 =
  [.bit2B, .bit2C, .bit2D, .bit2E, .bit2H, .bit2L, .bit2AtHl, .bit2A, .bit3B, .bit3C, .bit3D, .bit3E, .bit3H, .bit3L,
   .bit3AtHl, .bit3A] := by decide +kernel
theorem test_words_CB_6x : words [0xCB] 6 =
  [.bit4B, .bit4C, .bit4D, .bit4E, .bit4H, .bit4L, .bit4AtHl, .bit4A, .bit5B, .bit5C, .bit5D, .bit5E, .bit5H, .bit5L,
   .bit5AtHl, .bit5A] := by decide +kernel
theorem test_words_CB_7x : words [0xCB] 7 =
  [.bit6B, .bit6C, .bit6D, .bit6E, .bit6H, .bit6L, .bit6AtHl, .bit6A, .bit7B, .bit7C, .bit7D, .bit7E, .bit7H, .bit7L,
   .bit7AtHl, .bit7A] := by decide +kernel
theorem test_words_CB_8x : words [0xCB] 8 =
  [.res0B, .res0C, .res0D, .res0E, .res0H, .res0L, .res0AtHl, .res0A, .res1B, .res1C, .res1D, .res1E, .res1H, .res1L,
   .res1AtHl, .res1A] := by decide +kernel
theorem test_words_CB_9x : words [0xCB] 9 =
  [.res2B, .res2C, .res2D, .res2E, .res2H, .res2L, .res2AtHl, .res2A, .res3B, .res3C, .res3D, .res3E, .res3H, .res3L,
   .res3AtHl, .res3A] := by decide +kernel
theorem test_words_CB_Ax : words [0xCB] 10 =
  [.res4B, .res4C, .res4D, .res4E, .res4H, .res4L, .res4AtHl, .res4A, .res5B, .res5C, .res5D, .res5E, .res5H, .res5L,
   .res5AtHl, .res5A] := by decide +kernel
theorem test_words_CB_Bx : words [0xCB] 11 =
  [.res6B, .res6C, .res6D, .res6E, .res6H, .res6L, .res6AtHl, .res6A, .res7B, .res7C, .res7D, .res7E, .res7H, .res7L,
   .res7AtHl, .res7A] := by decide +kernel
theorem test_words_CB_Cx : words [0xCB] 12 =
  [.set0B, .set0C, .set0D, .set0E, .set0H, .set0L, .set0AtHl, .set0A, .set1B, .set1C, .set1D, .set1E, .set1H, .set1L,
   .set1AtHl, .set1A] := by decide +kernel
theorem test_words_CB_Dx : words [0xCB] 13 =
  [.set2B, .set2C, .set2D, .set2E, .set2H, .set2L, .set2AtHl, .set2A, .set3B, .set3C, .set3D, .set3E, .set3H, .set3L,
   .set3AtHl, .set3A] := by decide +kernel
theorem test_words_CB_Ex : words [0xCB] 14 =
  [.set4B, .set4C, .set4D, .set4E, .set4H, .set4L, .set4AtHl, .set4A, .set5B, .set5C, .set5D, .set5E, .set5H, .set5L,
   .set5AtHl, .set5A] := by decide +kernel
theorem test_words_CB_Fx : words [0xCB] 15 =
  [.set6B, .set6C, .set6D, .set6E, .set6H, .set6L, .set6AtHl, .set6A, .set7B, .set7C, .set7D, .set7E, .set7H, .set7L,
   .set7AtHl, .set7A] := by decide +kernel

/-! ### One step each: 95_test_vectors.md -/

theorem test_step_V1_ld_b_c : after (step { code [0x41] with b := 0x11, c := 0x22, f := 0xF0 })
    (fun t => (t.b, t.c, t.f, t.pc)) = some (0x22, 0x22, 0xF0, 0xC001) := by decide +kernel
theorem test_step_V2_ld_d_d8 : after (step { code [0x16, 0x9A] with f := 0x50 }) (fun t => (t.d, t.f, t.pc)) =
    some (0x9A, 0x50, 0xC002) := by decide +kernel
theorem test_step_V19_ld_h_at_hl : after (step (poke (hlAt (code [0x66]) 0xC100) 0xC100 0xD0)) (fun t => (t.h, t.l)) =
    some (0xD0, 0x00) := by decide +kernel
theorem test_step_V5_ld_at_hl_d8 : after (step (hlAt (code [0x36, 0x42]) 0xD000)) (fun t => State.cell t 0xD000) =
    some 0x42 := by decide +kernel
theorem test_step_V8_ld_hli_a : after (step { hlAt (code [0x22]) 0xFFFF with a := 0x99 })
    (fun t => (t.h, t.l, State.cell t 0xFFFF)) = some (0x00, 0x00, 0x99) := by decide +kernel
theorem test_step_V9_ld_a_hld : after (step (hlAt (code [0x3A]) 0xC000)) (fun t => (t.a, t.h, t.l)) =
    some (0x3A, 0xBF, 0xFF) := by decide +kernel
theorem test_step_V13_ldh_a_a8 : after (step (poke (code [0xF0, 0x44]) 0xFF44 0x90)) (fun t => (t.a, t.f)) =
    some (0x90, 0xB0) := by decide +kernel
theorem test_step_V14_ld_at_c_a : after (step { code [0xE2] with c := 0xFF, a := 0x1F }) (fun t => State.cell t 0xFFFF) =
    some 0x1F := by decide +kernel
theorem test_step_V30_ld_bc_d16 : after (step (code [0x01, 0x01, 0x02])) (fun t => (t.b, t.c, t.f, t.pc)) =
    some (0x02, 0x01, 0xB0, 0xC003) := by decide +kernel
theorem test_step_V32_ld_at_a16_sp : after (step { code [0x08, 0x00, 0xC1] with sp := 0xBEEF })
    (fun t => (State.cell t 0xC100, State.cell t 0xC101)) = some (0xEF, 0xBE) := by decide +kernel
theorem test_step_V38_push_hl_wraps : after (step { hlAt (code [0xE5]) 0xABCD with sp := 0x0001, ramEnable := true })
    (fun t => (t.sp, State.cell t 0xFFFF, t.ramEnable)) = some (0xFFFF, 0xCD, false) := by decide +kernel
theorem test_step_V37_pop_af : after (step { poke (poke (code [0xF1]) 0xCFFE 0xFF) 0xCFFF 0x12 with sp := 0xCFFE })
    (fun t => (t.a, t.f, t.sp)) = some (0x12, 0xF0, 0xD000) := by decide +kernel
theorem test_step_V41_ld_hl_sp_minus : after (step { code [0xF8, 0xFF] with sp := 0x0000 }) (fun t => (t.h, t.l, t.f)) =
    some (0xFF, 0xFF, 0x00) := by decide +kernel
theorem test_step_V51_add_d8 : after (step { code [0xC6, 0x0F] with a := 0x01 }) (fun t => (t.a, t.f)) =
    some (0x10, 0x20) := by decide +kernel
theorem test_step_V54_adc_ff_carry : after (step { code [0xCE, 0xFF] with a := 0x00, f := 0x10 }) (fun t => (t.a, t.f)) =
    some (0x00, 0xB0) := by decide +kernel
theorem test_step_V57_sub_at_hl : after (step { poke (hlAt (code [0x96]) 0xC100) 0xC100 0x40 with a := 0x3E })
    (fun t => (t.a, t.f)) = some (0xFE, 0x50) := by decide +kernel
theorem test_step_V60_sbc_ff_carry : after (step { code [0xDE, 0xFF] with a := 0x00, f := 0x10 }) (fun t => (t.a, t.f)) =
    some (0x00, 0xF0) := by decide +kernel
theorem test_step_V61_and_l : after (step { code [0xA5] with a := 0x5A, l := 0x3F, f := 0x50 }) (fun t => (t.a, t.f)) =
    some (0x1A, 0x20) := by decide +kernel
theorem test_step_V64_xor_a : after (step { code [0xAF] with a := 0xFF, f := 0xF0 }) (fun t => (t.a, t.f)) =
    some (0x00, 0x80) := by decide +kernel
theorem test_step_V67_cp_d8 : after (step { code [0xFE, 0x2F] with a := 0x3C }) (fun t => (t.a, t.f)) =
    some (0x3C, 0x60) := by decide +kernel
theorem test_step_V69_inc_a : after (step { code [0x3C] with a := 0xFF, f := 0x10 }) (fun t => (t.a, t.f)) =
    some (0x00, 0xB0) := by decide +kernel
theorem test_step_V71_dec_a : after (step { code [0x3D] with a := 0x01, f := 0x10 }) (fun t => (t.a, t.f)) =
    some (0x00, 0xD0) := by decide +kernel
theorem test_step_V75_dec_at_hl : after (step { hlAt (code [0x35]) 0xC100 with f := 0x10 })
    (fun t => (State.cell t 0xC100, t.f)) = some (0xFF, 0x70) := by decide +kernel
theorem test_step_V81_daa_after_sub : after (step { code [0x27] with a := 0x4B, f := 0x60 }) (fun t => (t.a, t.f)) =
    some (0x45, 0x40) := by decide +kernel
theorem test_step_V82_daa_carry : after (step { code [0x27] with a := 0x9A, f := 0x00 }) (fun t => (t.a, t.f)) =
    some (0x00, 0x90) := by decide +kernel
theorem test_step_V76_cpl : after (step { code [0x2F] with a := 0x35, f := 0x90 }) (fun t => (t.a, t.f)) =
    some (0xCA, 0xF0) := by decide +kernel
theorem test_step_V77_scf : after (step { code [0x37] with f := 0xE0 }) (fun t => t.f) = some 0x90 := by decide +kernel
theorem test_step_V78_ccf : after (step { code [0x3F] with f := 0xF0 }) (fun t => t.f) = some 0x80 := by decide +kernel
theorem test_step_V92_inc_sp : after (step { code [0x33] with sp := 0xFFFF, f := 0xA0 }) (fun t => (t.sp, t.f)) =
    some (0x0000, 0xA0) := by decide +kernel
theorem test_step_V95_add_hl_de : after (step { hlAt (code [0x19]) 0x0FFF with d := 0x00, e := 0x01, f := 0x80 })
    (fun t => (t.h, t.l, t.f)) = some (0x10, 0x00, 0x20) := by decide +kernel
theorem test_step_V102_add_sp_minus : after (step { code [0xE8, 0x80] with sp := 0x0080 }) (fun t => (t.sp, t.f)) =
    some (0x0000, 0x10) := by decide +kernel
theorem test_step_V111_rlca_zero : after (step { code [0x07] with a := 0x00, f := 0xF0 }) (fun t => (t.a, t.f)) =
    some (0x00, 0x00) := by decide +kernel
theorem test_step_V116_rra : after (step { code [0x1F] with a := 0x00, f := 0x10 }) (fun t => (t.a, t.f)) =
    some (0x80, 0x00) := by decide +kernel
theorem test_step_V120_jp : after (step (code [0xC3, 0x34, 0x12])) (fun t => t.pc) = some 0x1234 := by decide +kernel
theorem test_step_V127_jr_z_back : after (step { code [0x28, 0x80] with f := 0x80 }) (fun t => t.pc) = some 0xBF82 := by
  decide +kernel
theorem test_step_V128_jr_nc_not_taken : after (step { code [0x30, 0x10] with f := 0x10 }) (fun t => t.pc) = some 0xC002 := by
  decide +kernel
theorem test_step_V130_call : after (step { code [0xCD, 0x00, 0xD0] with sp := 0xDFFE })
    (fun t => (t.sp, t.pc, State.cell t 0xDFFD, State.cell t 0xDFFC)) = some (0xDFFC, 0xD000, 0xC0, 0x03) := by decide +kernel
theorem test_step_V133_ret : after (step { poke (poke (code [0xC9]) 0xDFFC 0x03) 0xDFFD 0xC0 with sp := 0xDFFC })
    (fun t => (t.sp, t.pc)) = some (0xDFFE, 0xC003) := by decide +kernel
theorem test_step_V137_rst28 : after (step { code [0xEF] with sp := 0xDFFE })
    (fun t => (t.sp, t.pc, State.cell t 0xDFFD, State.cell t 0xDFFC)) = some (0xDFFC, 0x0028, 0xC0, 0x01) := by decide +kernel
theorem test_step_V143_stop : after (step (code [0x10, 0x55])) (fun t => (t.pc, t.f, t.fault)) = some (0xC002, 0xB0, none) := by
  decide +kernel
theorem test_step_V151_rlc_a : after (step { code [0xCB, 0x07] with a := 0x00, f := 0x10 }) (fun t => (t.a, t.f)) =
    some (0x00, 0x80) := by decide +kernel
theorem test_step_V156_sra_l : after (step { code [0xCB, 0x2D] with l := 0x81 }) (fun t => (t.l, t.f)) = some (0xC0, 0x10) := by
  decide +kernel
theorem test_step_V167_swap_at_hl : after (step (poke (hlAt (code [0xCB, 0x36]) 0xC100) 0xC100 0x5A))
    (fun t => (State.cell t 0xC100, t.f)) = some (0xA5, 0x00) := by decide +kernel
theorem test_step_V161_bit_0_a : after (step { code [0xCB, 0x47] with f := 0xD0 }) (fun t => (t.a, t.f)) = some (0x01, 0x30) := by
  decide +kernel
theorem test_step_V165_res_7_at_hl : after (step (poke (hlAt (code [0xCB, 0xBE]) 0xC100) 0xC100 0xFF))
    (fun t => (State.cell t 0xC100, t.f)) = some (0x7F, 0xB0) := by decide +kernel
theorem test_step_V169_set_3_e : after (step { code [0xCB, 0xDB] with e := 0x00 }) (fun t => (t.e, t.f)) = some (0x08, 0xB0) := by
  decide +kernel
theorem test_step_V188_push_bank_writes : after (step { code [0xC5] with b := 0x03, c := 0x02, sp := 0x2002 })
    (fun t => (t.sp, t.romBank)) = some (0x2000, 2) := by decide +kernel
theorem test_step_V186_mode_fault : after (step (hlAt (code [0x36, 0x02]) 0x6000)) (fun t => (t.fault, t.mode, t.pc)) =
    some (some { kind := .invalidArgument, info := 0x02 }, .romBanking, 0xC002) := by decide +kernel
theorem test_step_V200_absent_bank : after (step { code [0xFA, 0x00, 0x40] with romBank := 5 }) (fun t => (t.fault, t.a, t.pc)) =
    some (some { kind := .outOfRange, info := 5 }, 0x01, 0xC003) := by decide +kernel
theorem test_step_S10_hole : after (step (code [0xD3])) (fun t => (t.fault, t.cur, t.last, t.pc)) =
    some (some { kind := .notImplemented, info := 0xD3 }, none, none, 0xC001) := by decide +kernel
theorem test_step_S1_counters : after (step (code [0xCD, 0x00, 0xD0])) (fun t => t.last) =
    some (some { opcode := 0xCD, params := [0x00, 0xD0], fetch := 3, cycle := 6, complete := true }) := by decide +kernel
/-- Trace T2, third step: nothing but the record moves before the completing step. -/
theorem test_engine_T2_push_waits : after (engineRun 3 { code [0xC5] with sp := 0xD000 }) (fun t => (t.sp, t.pc, t.cur)) =
    some (0xD000, 0xC001, some { opcode := 0xC5, params := [], fetch := 1, cycle := 3, complete := false }) := by decide +kernel

/-! ### Host commands: 95_test_vectors.md sections 5.2, 5.3, 6 -/

/-- The response to a command, and a field of the state after it. -/
def answer {α : Type} (cmd : Command) (s : State) (f : State → α) : Option (Response × α) :=
  match applyCommand cmd s with
  | .next (r, t) => some (r, f t)
  | .fault _ => none
  | .refused _ => none

theorem test_host_V205_get_byte : answer (.getByte 0x10000) (code []) (fun t => t.fault) =
    some (.failed { kind := .outOfRange, info := 0x10000 }, none) := by decide +kernel
theorem test_host_V207_bulk_read : (answer (.bulkRead 0xFFFF 2) (code []) (fun t => t.fault)).map Prod.fst =
    some (.failed { kind := .outOfRange, info := 0x10000 }) := by decide +kernel
theorem test_host_V208_bulk_write : answer (.bulkWrite 0x1FFF [0x0A, 0x03, 0x00]) (code []) (fun t => (t.ramEnable, t.romBank)) =
    some (.done, (true, 1)) := by decide +kernel
theorem test_host_V209_bulk_write_fault : answer (.bulkWrite 0x5FFF [0x01, 0x02, 0x00]) (code [])
    (fun t => (t.romBank, t.mode, t.fault)) =
    some (.failed { kind := .invalidArgument, info := 0x02 }, (0x21, .romBanking, none)) := by decide +kernel
theorem test_host_V210_load : Image.blank.valid = true := by decide +kernel
theorem test_host_V212_load_logo : ({ Image.blank with cells := Cells.write Image.blank.cells 0x0133 0xC1 } : Image).valid = false := by
  decide +kernel
theorem test_host_V214_load_checksum : ({ Image.blank with cells := Cells.write Image.blank.cells 0x014D 0x19 } : Image).valid = false := by
  decide +kernel
theorem test_host_R1_reset : answer .reset { poke (poke (code []) 0xC000 0x99) 0xFF40 0x99 with romBank := 3 }
    (fun t => (State.cell t 0xFF40, State.cell t 0xC000, t.romBank, t.pc)) = some (.done, (0x91, 0x99, 3, 0x0100)) := by decide +kernel

/-! ### Witnesses: hypotheses met together, and each clause at a boundary value -/

theorem witness_DecodeOfEncode : (Instr.ldBcD16 0xFFFF).WellFormed = true := rfl

theorem witness_EncodeOfDecode : decode [0x01, 0xFE, 0xFF, 0x00] = .ok (.ldBcD16 0xFFFE, [0x00]) := rfl

theorem witness_DeclaredCounts : (Instr.callA16 0).HasHandler = true ∧ (∀ b, Instr.callA16 0 ≠ .stop b) ∧
    Instr.prefixCb.HasHandler = false ∧ Instr.undefD3.HasHandler = false := ⟨rfl, nofun, rfl, rfl⟩

theorem witness_ReadDecoding : (0x3FFF : Word).toNat ≤ 0x3FFF ∧ (0x4000 ≤ (0x4000 : Word).toNat ∧ (0x4000 : Word).toNat ≤ 0x7FFF) ∧
    (0x4000 ≤ (0x7FFF : Word).toNat ∧ (0x7FFF : Word).toNat ≤ 0x7FFF) ∧ 0x8000 ≤ (0x8000 : Word).toNat := by decide

/-- The last byte of bank 0 and of bank 1; an offset beyond a partial bank; a bank beyond the image. -/
theorem witness_RomReads : (0 * 0x4000 + 0x3FFF < Image.blank.size ∧ 1 * 0x4000 + 0x3FFF < Image.blank.size) ∧
    (({ Image.blank with size := 0x7FFF } : Image).size ≤ 1 * 0x4000 + 0x3FFF ∧
      1 * 0x4000 < ({ Image.blank with size := 0x7FFF } : Image).size) ∧
    Image.blank.size ≤ 2 * 0x4000 := by decide

theorem witness_RamCells : Cells.wf Config.ramBase Config.spaceSize (code [0x41]).ram = true ∧ 0x8000 ≤ (0x8000 : Word).toNat ∧
    0x8000 ≤ (0xFFFF : Word).toNat ∧ (0x8000 : Word) ≠ 0xFFFF := by decide +kernel

theorem witness_BankSelectWrites : (code []).image.banking = true ∧ (code []).mode = .romBanking ∧
    ({ code [] with mode := .ramBanking } : State).mode = .ramBanking ∧
    (0x2000 ≤ (0x3FFF : Word).toNat ∧ (0x3FFF : Word).toNat ≤ 0x3FFF) ∧ (0x4000 ≤ (0x5FFF : Word).toNat ∧ (0x5FFF : Word).toNat ≤ 0x5FFF) ∧
    (0x6000 ≤ (0x6000 : Word).toNat ∧ (0x7FFF : Word).toNat ≤ 0x7FFF) ∧
    (0x00 : Byte).toNat = 0 ∧ (0x01 : Byte).toNat = 1 ∧ 2 ≤ (0x02 : Byte).toNat := by decide +kernel

theorem witness_RamEnableAndUnbankedWrites : (code []).image.cartType.toNat ∈ [1, 2, 3] ∧ (0x1FFF : Word).toNat ≤ 0x1FFF ∧
    ({ code [] with image := Image.none } : State).image.cartType.toNat ∉ [1, 2, 3] ∧ (0x7FFF : Word).toNat ≤ 0x7FFF := by decide +kernel

theorem witness_RomReadsByBankAlone : ∃ t, (code []).writeByte 0x0000 0x0A = .ok t ∧ t.romBank = (code []).romBank ∧
    (0x7FFF : Word).toNat ≤ 0x7FFF := ⟨_, rfl, by decide +kernel, by decide⟩

/-- A state that meets the invariant, with a cartridge and an instruction to run. -/
theorem inv_of (s : State) (h : Cells.wf Config.ramBase Config.spaceSize s.ram = true ∧
    Cells.wf 0 s.image.size s.image.cells = true ∧ s.image.valid = true ∧ s.f &&& 0x0F = 0 ∧ s.romBank.extractLsb' 0 5 ≠ 0 ∧
    s.cur = none ∧ s.last = none) : s.Inv where
  ram := h.1
  imageCells := h.2.1
  imageValid := .inr h.2.2.1
  flags := h.2.2.2.1
  bank := h.2.2.2.2.1
  cur := fun r hr => by rw [h.2.2.2.2.2.1] at hr; nomatch hr
  last := fun r hr => by rw [h.2.2.2.2.2.2] at hr; nomatch hr

theorem witness_StepKeepsInv : (code [0xCD, 0x00, 0xD0]).Inv ∧ ∃ t, step (code [0xCD, 0x00, 0xD0]) = .next t :=
  ⟨inv_of _ (by decide +kernel), _, rfl⟩

theorem witness_EngineStepKeepsInv : (code [0xCD]).Inv ∧ (∃ t, engineStep none (code [0xCD]) = .next (.fetching, t)) ∧
    ∃ t, engineStep (some 0x3C) (code [0xCD]) = .next (.complete, t) :=
  ⟨inv_of _ (by decide +kernel), ⟨_, rfl⟩, _, rfl⟩

theorem witness_CommandsKeepInv : (code []).Inv ∧ (Cells.wf 0 Image.blank.size Image.blank.cells = true ∧
    Cells.wf Config.ramBase Config.spaceSize [(0x8000, 0x01)] = true) ∧
    ∃ t, applyCommand (.load Image.blank [(0x8000, 0x01)]) (code []) = .next (.done, t) :=
  ⟨inv_of _ (by decide +kernel), by decide +kernel, _, by
    simp only [applyCommand, State.load, test_host_V210_load, if_true, respond]; rfl⟩

/-- A state with the latch set. -/
def latchedState : State := { code [] with fault := some { kind := .notImplemented, info := 0xD3 } }

theorem witness_LatchSticky : latchedState.fault = some { kind := .notImplemented, info := 0xD3 } ∧ latchedState.hasCartridge = true ∧
    (Command.setByte 0x2000 3 ≠ .reset ∧ ∃ t, applyCommand (.setByte 0x2000 3) latchedState = .next (.done, t)) :=
  ⟨rfl, by decide +kernel, by decide, _, rfl⟩

theorem witness_BreakpointHolds (s : State) (h : s = { code [0x00] with bpEn := true, bpAddr := 0xC000 }) :
    (s.hasCartridge = true ∧ s.fault = none ∧ s.inFlight = none ∧ s.bpEn = true ∧ s.pc = s.bpAddr) ∧
    ∃ t, engineStep none s = .next (.brk, t) := by
  subst h; exact ⟨⟨by decide +kernel, rfl, rfl, rfl, rfl⟩, _, rfl⟩

theorem witness_StepRunsDecoded : (encode (.ldBcD16 0x0201) = 0x01 :: [0x01, 0x02] ∧ counts (.ldBcD16 0x0201) = some (3, 3) ∧
      (code [0x01, 0x01, 0x02]).ready = true ∧
      (code [0x01, 0x01, 0x02]).holds (code [0x01, 0x01, 0x02]).pc (encode (.ldBcD16 0x0201))) ∧
    (Instr.undefD3.isHole = true ∧ (code [0xD3]).ready = true ∧ (code [0xD3]).holds (code [0xD3]).pc (encode .undefD3)) :=
  ⟨⟨rfl, rfl, by decide +kernel, rfl, rfl, rfl, trivial⟩, rfl, by decide +kernel, rfl, trivial⟩

theorem witness_CountersGuarantee : (code [0x00]).Inv ∧ ∃ t, engineStep none (code [0x00]) = .next (.complete, t) :=
  ⟨inv_of _ (by decide +kernel), _, rfl⟩

/-- `CALL` with its opcode byte fetched. -/
def midCall : State := { (code [0x00, 0xD0]).record 0xCD [] 1 1 with sp := 0xDFFE }

theorem witness_NothingBeforeCompletion : ∃ r0 d t, midCall.inFlight = some r0 ∧ r0.desc = some d ∧ r0.fetch < d.length ∧
    r0.cycle < d.cycles ∧ engineStep none midCall = .next (.fetching, t) :=
  ⟨_, _, _, rfl, rfl, by decide, by decide, rfl⟩

theorem witness_InjectedOpcode : (∃ r, midCall.inFlight = some r) ∧
    ((code [0x3C]).ready = true ∧ (code [0x3C]).bpEn = false ∧ (code [0x3C]).readByte (code [0x3C]).pc = .ok 0x3C) ∧
    ((code []).ready = true ∧ ∃ t, engineStep (some 0x06) (code []) = .next (.fetching, t)) :=
  ⟨⟨_, rfl⟩, ⟨by decide +kernel, rfl, rfl⟩, by decide +kernel, _, rfl⟩

theorem witness_ResetEffect : latchedState.hasCartridge = true ∧ (0xC000 : Word).toNat ∉ Config.resetSeeds.map Prod.fst ∧
    Cells.wf Config.ramBase Config.spaceSize latchedState.ram = true ∧ ((0xFFFF : Word).toNat, (0x00 : Byte)) ∈ Config.resetSeeds := by
  decide +kernel

theorem witness_PowerOnState : 0xFF04 ∉ Config.resetSeeds.map Prod.fst ∧
    Cells.wf Config.ramBase Config.spaceSize [(0x8000, 0x01), (0xFF05, 0x99), (0xFFFF, 0xFF)] = true ∧
    (0xFF05, (0x00 : Byte)) ∈ Config.resetSeeds ∧ (0xFFFF, (0x00 : Byte)) ∈ Config.resetSeeds := by decide +kernel

theorem witness_LoadValidation : Image.blank.valid = true ∧ Image.none.valid = false := by decide +kernel

theorem witness_HostWritesNoRegister (cmd : Command) (h : cmd = .setByte 0xC000 0x05) : cmd ≠ .step ∧ (∀ op, cmd ≠ .stepInjected op) ∧
    cmd ≠ .reset ∧ ∃ t, applyCommand cmd (code []) = .next (.done, t) := by
  subst h; exact ⟨nofun, nofun, nofun, _, rfl⟩

/-- 10_state.md R35, column "after power-on": a breakpoint and a `last` from before `Load` are gone after `Reset`. -/
theorem test_load_then_reset_clears (m : Image) (r : List Host.Cell) (q : InstrRecord) :
    let s := (State.install { code [] with bpEn := true, bpAddr := 0x1234, last := some q } m r).doReset
    s.bpEn = false ∧ s.bpAddr = 0x0000 ∧ s.last = none :=
  ⟨rfl, rfl, rfl⟩

/-- Bank 5 selected, which the blank image does not have. -/
def absentBank : State := { code [] with romBank := 5 }

/-- A single access that succeeds or fails in 0x0000 to 0xFFFF, at the ends of a run, and the ranges of each clause at a boundary. -/
theorem witness_HostAccess : (∃ v, (code []).readByte 0x7FFF = .ok v) ∧
    absentBank.readByte 0x4000 = .error { kind := .outOfRange, info := 5 } ∧
    (∃ t, (code []).writeByte 0xFFFF 0x11 = .ok t) ∧
    (code []).writeByte 0x6000 0x02 = .error { kind := .invalidArgument, info := 2 } ∧
    (((-1 : Int) < 0) ∧ ((0x10000 : Int) ≤ 0x10000) ∧ ((0x10000 : Int) < 0xFFFF + ([0x11, 0x22] : List Byte).length)) ∧
    (((0 : Int) ≤ 0x10000) ∧ ((0x10000 : Int) ≤ 0x10000)) ∧
    (((0 : Int) ≤ 0xFFFF) ∧ (0xFFFF : Int) + ([0x11] : List Byte).length ≤ 0x10000) ∧
    (((0x8000 : Int) ≤ 0xFFFF) ∧ Cells.wf Config.ramBase Config.spaceSize (code []).ram = true) :=
  ⟨exists_ok (by decide +kernel), error_of (by decide +kernel), exists_ok (by decide +kernel), error_of (by decide +kernel),
    by decide, by decide, by decide, by decide, by decide +kernel⟩

/-- The premises of the bulk clauses: single accesses that succeed and fail, and the rest of a read that succeeds and fails. -/
theorem witness_HostAccess_bulk : (∃ t, applyCommand (.setByte 0x1FFF 0x0A) (code []) = .next (.done, t)) ∧
    (∃ r, applyCommand (.setByte 0x6000 0x02) (code []) = .next (.failed r, code [])) ∧
    (∃ v vs, applyCommand (.getByte 0xFFFE) (code []) = .next (.byte v, code []) ∧
      applyCommand (.bulkRead (0xFFFE + 1) 1) (code []) = .next (.bytes vs, code [])) ∧
    (∃ v r, applyCommand (.getByte 0x3FFF) absentBank = .next (.byte v, absentBank) ∧
      applyCommand (.bulkRead (0x3FFF + 1) 1) absentBank = .next (.failed r, absentBank)) ∧
    ∃ r, applyCommand (.getByte 0x4000) absentBank = .next (.failed r, absentBank) :=
  ⟨⟨_, rfl⟩, ⟨_, rfl⟩, ⟨_, _, rfl, rfl⟩, ⟨_, _, rfl, rfl⟩, _, rfl⟩

theorem witness_QueriesArePure : (descView 0x08).hasHandler = true ∧ decode [0x08, 0, 0] = .ok (.ldAtA16Sp 0x0000, []) ∧
    (descView 0xCB).hasHandler = false ∧ (descView 0xFD).hasHandler = false :=
  ⟨rfl, rfl, rfl, rfl⟩

/-- spec/opcode_table.json, rows 0xD3 and 0x08. -/
theorem test_query_descriptors :
    descView 0xD3 = { opcode := 0xD3, description := "(undefined)", length := none, cycles := none, hasHandler := false } ∧
    descView 0x08 = { opcode := 0x08, description := "LD (a16),SP", length := some 3, cycles := some 5, hasHandler := true } := by
  decide +kernel

/-- `HL` in RAM, on the mode-select register, and in a bank the image does not have. -/
def ramHl : State := poke (hlAt (code []) 0xC100) 0xC100 0x09
def modeHl : State := { hlAt (code []) 0x6000 with a := 0x02 }
def absentHl : State := { hlAt (code []) 0x4000 with romBank := 5 }

theorem witness_hl : ramHl.readByte ramHl.hl = .ok 0x09 ∧ absentHl.readByte absentHl.hl = .error { kind := .outOfRange, info := 5 } ∧
    (∃ t, ramHl.writeByte ramHl.hl 0x07 = .ok t) ∧
    modeHl.writeByte modeHl.hl 0x02 = .error { kind := .invalidArgument, info := 2 } :=
  ⟨ok_of (by decide +kernel), error_of (by decide +kernel), exists_ok (by decide +kernel), error_of (by decide +kernel)⟩

/-- The accesses that succeed and fail are those of `witness_hl`. -/
theorem witness_LoadRegister : Instr.ldBC.form = .ldRR .b .c ∧ (Instr.ldAD8 0xFF).form = .ldRD8 .a 0xFF ∧
    Instr.ldHAtHl.form = .ldRAtHl .h := ⟨rfl, rfl, rfl⟩

theorem witness_StoreAtHl : (∃ src, Instr.ldAtHlA.form = .ldAtHlR src ∧ (0x02 : Byte) = modeHl.getReg src) ∧
    (Instr.ldAtHlD8 0x02).form = .ldAtHlD8 0x02 := ⟨⟨.a, rfl, rfl⟩, rfl⟩

theorem witness_LoadA : Instr.ldAAtBc.form = .ldAAtBc ∧ Instr.ldAAtDe.form = .ldAAtDe ∧ (Instr.ldAAtA16 0x4000).form = .ldAAtA16 0x4000 ∧
    (Instr.ldhAAtA8 0xFF).form = .ldhAAtA8 0xFF ∧ Instr.ldAAtC.form = .ldAAtC ∧
    absentHl.readByte 0x4000 = .error { kind := .outOfRange, info := 5 } ∧ ramHl.readByte 0xC100 = .ok 0x09 :=
  ⟨rfl, rfl, rfl, rfl, rfl, error_of (by decide +kernel), ok_of (by decide +kernel)⟩

theorem witness_StoreA : Instr.ldAtBcA.form = .ldAtBcA ∧ Instr.ldAtDeA.form = .ldAtDeA ∧ (Instr.ldAtA16A 0x6000).form = .ldAtA16A 0x6000 ∧
    (Instr.ldhAtA8A 0xFF).form = .ldhAtA8A 0xFF ∧ Instr.ldAtCA.form = .ldAtCA ∧
    modeHl.writeByte 0x6000 modeHl.a = .error { kind := .invalidArgument, info := 2 } ∧ ∃ t, ramHl.writeByte 0xC100 ramHl.a = .ok t :=
  ⟨rfl, rfl, rfl, rfl, rfl, error_of (by decide +kernel), exists_ok (by decide +kernel)⟩

theorem witness_PostIncrementLoads : Instr.ldAtHliA.form = .ldAtHliA ∧ Instr.ldAtHldA.form = .ldAtHldA ∧
    Instr.ldAAtHli.form = .ldAAtHli ∧ Instr.ldAAtHld.form = .ldAAtHld ∧ (∃ t, ramHl.writeByte ramHl.hl ramHl.a = .ok t) ∧
    modeHl.writeByte modeHl.hl modeHl.a = .error { kind := .invalidArgument, info := 2 } :=
  ⟨rfl, rfl, rfl, rfl, exists_ok (by decide +kernel), error_of (by decide +kernel)⟩

theorem witness_LoadPair : (Instr.ldSpD16 0xFFFF).form = .ldRrD16 .sp 0xFFFF ∧ Instr.ldSpHl.form = .ldSpHl := ⟨rfl, rfl⟩

theorem witness_SpPlusOffset : (Instr.ldHlSpR8 0x80).form = .ldHlSpR8 0x80 ∧ (Instr.addSpR8 0x7F).form = .addSpR8 0x7F := ⟨rfl, rfl⟩

/-- `SP` in RAM; with its first byte, or its second, on the mode-select register. -/
def stackAt (w : Word) : State := { code [] with sp := w, b := 0x02, c := 0x02 }

theorem witness_StoreSp : (Instr.ldAtA16Sp 0x5FFF).form = .ldAtA16Sp 0x5FFF ∧
    (∃ s1 s2, (stackAt 0x0202).writeByte 0xFFFF 0x02 = .ok s1 ∧ s1.writeByte 0x0000 0x02 = .ok s2) ∧
    (stackAt 0x0202).writeByte 0x6000 (loByte 0x0202) = .error { kind := .invalidArgument, info := 2 } ∧
    ∃ s1, (stackAt 0x0202).writeByte 0x5FFF (loByte 0x0202) = .ok s1 ∧
      s1.writeByte (0x5FFF + 1) (hiByte 0x0202) = .error { kind := .invalidArgument, info := 2 } :=
  ⟨rfl, exists_ok_ok (by decide +kernel), error_of (by decide +kernel), exists_ok_error (by decide +kernel)⟩

theorem witness_PushPair : Instr.pushBc.form = .push .bc ∧
    (∃ s1 s2, (stackAt 0x0001).writeByte (0x0001 - 1) 0x02 = .ok s1 ∧ s1.writeByte (0x0001 - 2) 0x02 = .ok s2) ∧
    (stackAt 0x6001).writeByte (0x6001 - 1) 0x02 = .error { kind := .invalidArgument, info := 2 } ∧
    ∃ s1, (stackAt 0x8001).writeByte (0x8001 - 1) 0x02 = .ok s1 ∧
      s1.writeByte (0x8001 - 2) 0x02 = .error { kind := .invalidArgument, info := 2 } :=
  ⟨rfl, exists_ok_ok (by decide +kernel), error_of (by decide +kernel), exists_ok_error (by decide +kernel)⟩

/-- `SP` in RAM; in an absent bank; at the last byte of bank 0 before it. -/
theorem witness_PopPair : Instr.popAf.form = .pop .af ∧ (∃ lo hi, (code []).readByte 0xFFFF = .ok lo ∧ (code []).readByte (0xFFFF + 1) = .ok hi) ∧
    absentHl.readByte 0x4000 = .error { kind := .outOfRange, info := 5 } ∧
    ∃ lo, absentHl.readByte 0x3FFF = .ok lo ∧ absentHl.readByte (0x3FFF + 1) = .error { kind := .outOfRange, info := 5 } :=
  ⟨rfl, exists_ok_ok (by decide +kernel), error_of (by decide +kernel), exists_ok_error (by decide +kernel)⟩

theorem witness_PushThenPop : Instr.pushAf.form = .push .af ∧ Instr.popHl.form = .pop .hl ∧
    Cells.wf Config.ramBase Config.spaceSize (stackAt 0x8002).ram = true ∧ 0x8000 ≤ ((stackAt 0x8002).sp - 1).toNat ∧
    0x8000 ≤ ((stackAt 0x8002).sp - 2).toNat := ⟨rfl, rfl, by decide +kernel, by decide, by decide⟩

/-- The bytes at HL are those of `witness_hl`. -/
theorem witness_AddAdc : aluOperand .addAB (code []) = some (.add, .ok 0x00) ∧ Instr.adcAAtHl.form = .aluAtHl .adc ∧
    aluOperand (.addAD8 0xFF) (code []) = some (.add, .ok 0xFF) ∧
    Instr.adcAAtHl.form = .aluAtHl .adc := ⟨rfl, rfl, rfl, rfl⟩

theorem witness_SubSbcCp : aluOperand .subB (code []) = some (.sub, .ok 0x00) ∧ Instr.sbcAAtHl.form = .aluAtHl .sbc ∧
    aluOperand (.cpD8 0xFF) (code []) = some (.cp, .ok 0xFF) ∧
    Instr.cpAtHl.form = .aluAtHl .cp := ⟨rfl, rfl, rfl, rfl⟩

theorem witness_Logic : aluOperand .andB (code []) = some (.land, .ok 0x00) ∧ Instr.xorAtHl.form = .aluAtHl .lxor ∧
    aluOperand (.orD8 0xFF) (code []) = some (.lor, .ok 0xFF) ∧
    Instr.orAtHl.form = .aluAtHl .lor := ⟨rfl, rfl, rfl, rfl⟩

/-- The faulting write of `INC (HL)` needs an image byte of 0x01 at 0x6000, that of `DEC (HL)` one of 0x03. -/
def imageHl (v : Byte) : State :=
  { hlAt (code []) 0x6000 with image := { Image.blank with cells := Cells.write Image.blank.cells 0x6000 v } }

theorem witness_IncDec8 : Instr.incA.form = .incR .a ∧ Instr.decL.form = .decR .l ∧ Instr.incAtHl.form = .incAtHl ∧
    Instr.decAtHl.form = .decAtHl ∧ ramHl.readByte ramHl.hl = .ok 0x09 ∧ (imageHl 0x01).readByte (imageHl 0x01).hl = .ok 0x01 ∧
    (imageHl 0x01).writeByte (imageHl 0x01).hl (0x01 + 1) = .error { kind := .invalidArgument, info := 2 } ∧
    (imageHl 0x03).readByte (imageHl 0x03).hl = .ok 0x03 ∧
    (imageHl 0x03).writeByte (imageHl 0x03).hl (0x03 - 1) = .error { kind := .invalidArgument, info := 2 } :=
  ⟨rfl, rfl, rfl, rfl, ok_of (by decide +kernel), ok_of (by decide +kernel), error_of (by decide +kernel), ok_of (by decide +kernel), error_of (by decide +kernel)⟩

theorem witness_DecimalAdjust (s : State) : ∃ (low high : Bool) (corr : Nat),
    low = (s.hf || (!s.nf && decide (s.a.toNat % 16 > 9))) ∧ high = (s.cf || (!s.nf && decide (s.a.toNat > 0x99))) ∧
    corr = (if low then 0x06 else 0) + (if high then 0x60 else 0) := ⟨_, _, _, rfl, rfl, rfl⟩

theorem witness_DecimalArithmetic (s : State) (h : s = { code [] with a := 0x99 }) : s.a = bcd 99 ∧
    (aluOperand (.adcAD8 0x99) s = some (.adc, .ok (bcd 99)) ∧ ∃ t, exec (.adcAD8 0x99) s = .next t) ∧
    (aluOperand (.sbcAD8 0x99) s = some (.sbc, .ok (bcd 99)) ∧ ∃ t, exec (.sbcAD8 0x99) s = .next t) ∧ s.cf.toNat = 1 := by
  subst h; exact ⟨rfl, ⟨rfl, _, rfl⟩, ⟨rfl, _, rfl⟩, rfl⟩

theorem witness_AddHl : Instr.addHlHl.form = .addHlRr .hl ∧ Instr.addHlSp.form = .addHlRr .sp := ⟨rfl, rfl⟩

theorem witness_IncDec16 : Instr.incSp.form = .incRr .sp ∧ Instr.decBc.form = .decRr .bc := ⟨rfl, rfl⟩

theorem witness_RotateA (op : RotOp) (h : op = .rr) : Instr.rra = .rra ∧ op = .rr ∧
    (([0x1F], 1, 1) : List Byte × Nat × Nat) = ([0x1F], 1, 1) := ⟨rfl, h, rfl⟩

theorem witness_RotateRegister : Instr.swapA.form = .rotR .swap .a := rfl

theorem witness_RotateAtHl : Instr.slaAtHl.form = .rotAtHl .sla ∧ absentHl.readByte absentHl.hl = .error { kind := .outOfRange, info := 5 } ∧
    ramHl.readByte ramHl.hl = .ok 0x09 ∧ (∃ t, ramHl.writeByte ramHl.hl (BitVec.ofNat 8 (rotNat .sla 0x09 1)) = .ok t) ∧
    (imageHl 0x01).writeByte (imageHl 0x01).hl (BitVec.ofNat 8 (rotNat .sla 0x01 1)) = .error { kind := .invalidArgument, info := 2 } :=
  ⟨rfl, error_of (by decide +kernel), ok_of (by decide +kernel), exists_ok (by decide +kernel), error_of (by decide +kernel)⟩

theorem witness_TestBit : Instr.bit7A.form = .bitR .b7 .a ∧ Instr.bit0AtHl.form = .bitAtHl .b0 ∧ ramHl.readByte ramHl.hl = .ok 0x09 ∧
    absentHl.readByte absentHl.hl = .error { kind := .outOfRange, info := 5 } := ⟨rfl, rfl, ok_of (by decide +kernel), error_of (by decide +kernel)⟩

theorem witness_ResetSetBit : Instr.res7A.form = .resR .b7 .a ∧ Instr.set0B.form = .setR .b0 .b ∧ Instr.res0AtHl.form = .resAtHl .b0 ∧
    Instr.set7AtHl.form = .setAtHl .b7 ∧ ramHl.readByte ramHl.hl = .ok 0x09 ∧ (∃ t, ramHl.writeByte ramHl.hl 0x89 = .ok t) ∧
    (imageHl 0x02).writeByte (imageHl 0x02).hl 0x02 = .error { kind := .invalidArgument, info := 2 } :=
  ⟨rfl, rfl, rfl, rfl, ok_of (by decide +kernel), exists_ok (by decide +kernel), error_of (by decide +kernel)⟩

/-- `F = B0` after power-on: Z and C are set, so `Z` and `C` are taken, `NZ` and `NC` are not. -/
theorem witness_Jumps : (Instr.jpA16 0xFFFF).form = .jp 0xFFFF ∧ Instr.jpAtHl.form = .jpAtHl ∧ (Instr.jrR8 0x80).form = .jr 0x80 ∧
    (Instr.jpCA16 0xFFFF).form = .jpCc .c 0xFFFF ∧ (Instr.jrNzR8 0x7F).form = .jrCc .nz 0x7F ∧ (code []).cf = true ∧
    (code []).zf = true := ⟨rfl, rfl, rfl, rfl, rfl, rfl, rfl⟩

theorem witness_Calls : (Instr.callA16 0xFFFF).form = .call 0xFFFF ∧ (Instr.callZA16 0xFFFF).form = .callCc .z 0xFFFF ∧
    (code []).cond .z = true ∧ (code []).cond .nz = false ∧ (Instr.rst38.form = .rst .b7 ∧ (0x38 : Word).toNat = 8 * Bit3.b7.val) ∧
    (∃ s1 s2, (code []).writeByte ((code []).sp - 1) 0xC0 = .ok s1 ∧ s1.writeByte ((code []).sp - 2) 0x00 = .ok s2) ∧
    ({ stackAt 0x6001 with pc := 0x0203 } : State).writeByte (0x6001 - 1) (hiByte 0x0203) =
      .error { kind := .invalidArgument, info := 2 } ∧
    ∃ s1, (stackAt 0x8001).writeByte (0x8001 - 1) (hiByte 0x0302) = .ok s1 ∧
      s1.writeByte (0x8001 - 2) (loByte 0x0302) = .error { kind := .invalidArgument, info := 2 } :=
  ⟨rfl, rfl, rfl, rfl, ⟨rfl, rfl⟩, exists_ok_ok (by decide +kernel), error_of (by decide +kernel), exists_ok_error (by decide +kernel)⟩

/-- The reads are those of `witness_PopPair`. -/
theorem witness_Returns : Instr.retZ.form = .retCc .z ∧ (code []).cond .z = true ∧ Instr.retNc.form = .retCc .nc ∧
    (code []).cond .nc = false := ⟨rfl, rfl, rfl, rfl⟩

theorem witness_HolesAndPrefix : Instr.undefFD.isHole = true ∧ (code [0xCB]).ready = true ∧ (code [0xCB]).readByte (code [0xCB]).pc = .ok 0xCB ∧
    ∃ t, engineStep none (code [0xCB]) = .next (.fetching, t) := ⟨rfl, by decide +kernel, rfl, _, rfl⟩

theorem witness_RegisterFrame : (∃ t, exec .addHlBc (code []) = .next t) ∧ Reg8.a ∉ formDests Instr.addHlBc.form ∧
    formWritesSp Instr.addHlBc.form = false ∧ formIsTransfer Instr.addHlBc.form = false ∧
    (formFlagMask Instr.incB.form).getLsbD 4 = false ∧ formFlagMask Instr.nop.form = 0 ∧ Instr.addHlBc.HasHandler = true :=
  ⟨⟨_, rfl⟩, by decide, rfl, rfl, rfl, rfl, rfl⟩

theorem witness_MemoryFrame : (∃ t, exec .pushBc (code []) = .next t) ∧ (0xC000 : Word) ∉ formStores Instr.pushBc.form (code []) ∧
    (∀ a ∈ formStores Instr.pushBc.form (code []), 0x8000 ≤ a.toNat) ∧ formStores Instr.popBc.form (code []) = [] :=
  ⟨⟨_, rfl⟩, by decide +kernel, fun a h => by
    have e : formStores Instr.pushBc.form (code []) = [0xFFFD, 0xFFFC] := by decide +kernel
    rw [e] at h
    simp only [List.mem_cons, List.not_mem_nil, or_false] at h
    rcases h with rfl | rfl <;> decide, rfl⟩

end Sys2Proof.Tests
end

namespace Sys2Proof.Machine

/-! ### What an outcome ensures -/

/-- Partial correctness of an outcome: if it is a next state, that state meets `P`. -/
def Ensures {σ φ ρ : Type} (P : σ → Prop) (x : Host.Outcome σ φ ρ) : Prop := ∀ t, x = .next t → P t

section
variable {σ φ ρ : Type} {P : σ → Prop}

theorem Ensures.next {t : σ} (h : P t) : Ensures P (.next t : Host.Outcome σ φ ρ) :=
  fun _ e => Host.Outcome.next.inj e ▸ h

theorem Ensures.fault (q : φ) : Ensures P (.fault q : Host.Outcome σ φ ρ) := nofun

theorem Ensures.refused (q : ρ) : Ensures P (.refused q : Host.Outcome σ φ ρ) := nofun

end

section
variable {P : State → Prop} {s : State}

/-- A read ensures what its continuation ensures and what holds with its fault latched. -/
theorem Ensures.withRead {a : Word} {k : Byte → Result} (hk : ∀ v, Ensures P (k v)) (hf : ∀ q, P { s with fault := some q }) :
    Ensures P (s.withRead a k) := by
  intro t h
  obtain ⟨v, _, h⟩ | ⟨q, _, rfl⟩ := State.withRead_next h
  · exact hk v t h
  · exact hf q

/-- A write ensures what its continuation ensures and what holds with its fault latched. -/
theorem Ensures.withWrite {a : Word} {v : Byte} {k : State → Result}
    (hk : ∀ w, s.writeByte a v = .ok w → Ensures P (k w)) (hf : ∀ q, P { s with fault := some q }) :
    Ensures P (s.withWrite a v k) := by
  intro t h
  obtain ⟨w, hw, h⟩ | ⟨q, _, rfl⟩ := State.withWrite_next h
  · exact hk w hw t h
  · exact hf q

/-- A fetch that succeeds moves `PC` and nothing else (40_engine_and_alu_primitives.md R101). -/
theorem State.fetchByte_ok {t : State} {v : Byte} (h : s.fetchByte = .ok (v, t)) : t = { s with pc := s.pc + 1 } := by
  unfold State.fetchByte at h
  split at h
  · exact (Prod.mk.inj (Except.ok.inj h)).2.symm
  · cases h

/-- A fetch ensures what its continuation ensures past the byte and what holds with its fault latched. -/
theorem Ensures.withFetch {k : Byte → State → Result} (hk : ∀ v, Ensures P (k v { s with pc := s.pc + 1 }))
    (hf : ∀ q, P { s with fault := some q }) : Ensures P (s.withFetch k) := by
  unfold State.withFetch
  split
  case h_1 v t hv => exact State.fetchByte_ok hv ▸ hk v
  case h_2 q _ => exact .next (hf q)

end

/-! ### What a bus write leaves alone -/

/-- `t` differs from `s` at most in RAM and in the registers of the bank controller. -/
def BusFrame (s t : State) : Prop :=
  t = { s with ram := t.ram, ramEnable := t.ramEnable, romBank := t.romBank, ramBank := t.ramBank, mode := t.mode }

theorem BusFrame.trans {s t u : State} (h : BusFrame s t) (h' : BusFrame t u) : BusFrame s u := by
  unfold BusFrame at *; rw [h', h]

/-- A field that neither RAM nor the bank controller holds is the same across a `BusFrame`. -/
theorem BusFrame.keeps {s t : State} {α : Type} {π : State → α} (h : BusFrame s t)
    (hπ : π { s with ram := t.ram, ramEnable := t.ramEnable, romBank := t.romBank, ramBank := t.ramBank, mode := t.mode } = π s) :
    π t = π s :=
  (congrArg π h).trans hπ

/-- A bus write is confined to RAM and the bank controller (20_memory.md R48 to R54). -/
theorem State.writeByte_busFrame {s t : State} {a : Word} {v : Byte} (h : s.writeByte a v = .ok t) : BusFrame s t := by
  obtain ⟨_, rfl⟩ | ⟨_, _, ht⟩ := State.writeByte_ok h
  · rfl
  · unfold BusFrame; rw [ht]

/-- What holds of a state and survives every single bus write survives a run of them (20_memory.md R57). -/
theorem State.writeRun_induct {P : State → Prop} (hw : ∀ {u w : State} {a : Word} {v : Byte}, P u → u.writeByte a v = .ok w → P w)
    (bs : List Byte) {s : State} (a : Nat) (h : P s) : P (s.writeRun a bs).2 := by
  induction bs generalizing s a with
  | nil => exact h
  | cons v vs ih =>
    unfold State.writeRun
    split
    · exact h
    · exact ih _ (hw h (by assumption))

/-! ### The single writes of a form -/

/-- The forms without a handler: the bare byte 0xCB and the eleven holes (30_encoding.md R82, R89). -/
def formNoHandler (f : Form) : Prop := f = .prefixCb ∨ ∃ op, f = .undef op

/-- One write of a field that form `f`, applied to `s`, may make on its way (10_state.md R15 to R18, R22, 60_exceptions.md R262):
a destination register, flags with those outside the mask kept, `SP`, `PC`, a bus write to an address of the form, the latch, `cur`. -/
inductive Update (f : Form) (s : State) : State → State → Prop where
  | reg {u : State} {r : Reg8} (v : Byte) : r ∈ formDests f → Update f s u (u.setReg r v)
  | flags {u : State} {z n h c : Bool} : formFlagMask f ≠ 0 →
      ((formFlagMask f).getLsbD 7 = false → z = u.zf) → ((formFlagMask f).getLsbD 6 = false → n = u.nf) →
      ((formFlagMask f).getLsbD 5 = false → h = u.hf) → ((formFlagMask f).getLsbD 4 = false → c = u.cf) →
      Update f s u (u.setFlags z n h c)
  | sp {u : State} (w : Word) : formWritesSp f = true → Update f s u { u with sp := w }
  | pc {u : State} (w : Word) : formIsTransfer f = true → Update f s u (u.jump w)
  | store {u w : State} {a : Word} {v : Byte} : a ∈ formStores f s → u.writeByte a v = .ok w → Update f s u w
  | latch {u : State} (q : FaultRecord) : Update f s u { u with fault := some q }
  | cur {u : State} (r : Option InstrRecord) : formNoHandler f → Update f s u { u with cur := r }

/-- `t` is reached from `s` by writes that form `f` may make. -/
inductive Updates (f : Form) (s : State) : State → Prop where
  | refl : Updates f s s
  | step {u w : State} : Updates f s u → Update f s u w → Updates f s w

section
variable {f : Form} {s u w : State}

theorem Updates.setReg (h : Updates f s u) {r : Reg8} (v : Byte) (hr : r ∈ formDests f) : Updates f s (u.setReg r v) :=
  h.step (.reg v hr)

/-- A write of `HL` is a write of `H` and one of `L` (10_state.md R12). -/
theorem Updates.setHl (h : Updates f s u) (v : Word) (hr : formDests f = [.h, .l] ∨ formDests f = [.a, .h, .l]) :
    Updates f s (u.setHl v) :=
  (h.setReg (r := .h) (hiByte v) (by rcases hr with e | e <;> simp [e])).setReg (r := .l) (loByte v)
    (by rcases hr with e | e <;> simp [e])

theorem Updates.setPair (h : Updates f s u) (p : RegPair) (v : Word) (hr : formDests f = pairRegs p)
    (hs : formWritesSp f = (p == .sp)) : Updates f s (u.setPair p v) := by
  cases p with
  | bc => exact (h.setReg (r := .b) (hiByte v) (by simp [hr, pairRegs])).setReg (r := .c) (loByte v) (by simp [hr, pairRegs])
  | de => exact (h.setReg (r := .d) (hiByte v) (by simp [hr, pairRegs])).setReg (r := .e) (loByte v) (by simp [hr, pairRegs])
  | hl => exact h.setHl v (.inl hr)
  | sp => exact h.step (.sp v hs)

/-- A form that may write every flag (10_state.md R16). -/
theorem Updates.setFlags (h : Updates f s u) (z n hf c : Bool) (hm : formFlagMask f = 0xF0) :
    Updates f s (u.setFlags z n hf c) :=
  h.step (.flags (by rw [hm]; decide) (by simp [hm]) (by simp [hm]) (by simp [hm]) (by simp [hm]))

/-- A form that may write every flag but C (10_state.md R16). -/
theorem Updates.setFlagsButC (h : Updates f s u) (z n hf : Bool) (hm : formFlagMask f = 0xE0) :
    Updates f s (u.setFlags z n hf u.cf) :=
  h.step (.flags (by rw [hm]; decide) (by simp [hm]) (by simp [hm]) (by simp [hm]) (fun _ => rfl))

/-- Every write of `F` as a byte sets four flags (10_state.md R13). -/
theorem State.writeF_eq_setFlags (v : Byte) :
    u.writeF v = u.setFlags (v.getLsbD 7) (v.getLsbD 6) (v.getLsbD 5) (v.getLsbD 4) := by
  have hv : ∀ v : Byte, v &&& 0xF0 = packF (v.getLsbD 7) (v.getLsbD 6) (v.getLsbD 5) (v.getLsbD 4) &&& 0xF0 := by decide
  unfold State.setFlags State.writeF
  rw [hv v]

theorem Updates.alu (h : Updates f s u) (op : AluOp) (b : Byte) (hr : formDests f = if op = .cp then [] else [.a])
    (hm : formFlagMask f = 0xF0) : Updates f s (u.alu op b) := by
  have hflags : Updates f s (u.putFlags (aluOut op u.a b u.cf)) := h.setFlags _ _ _ _ hm
  by_cases hop : op = .cp
  · subst hop; exact hflags
  · have ha : aluWritesA op = true := by cases op <;> first | rfl | exact absurd rfl hop
    unfold State.alu
    simp only [ha, if_true]
    exact hflags.setReg (r := .a) _ (by simp [hr, hop])

theorem Updates.withRead (h : Updates f s u) {a : Word} {k : Byte → Result} (hk : ∀ v, Ensures (Updates f s) (k v)) :
    Ensures (Updates f s) (u.withRead a k) :=
  .withRead hk fun q => h.step (.latch q)

theorem Updates.withWrite (h : Updates f s u) {a : Word} {v : Byte} {k : State → Result} (ha : a ∈ formStores f s)
    (hk : ∀ w, Updates f s w → Ensures (Updates f s) (k w)) : Ensures (Updates f s) (u.withWrite a v k) :=
  .withWrite (fun _ hw => hk _ (h.step (.store ha hw))) fun q => h.step (.latch q)

/-- A store that ends an instruction. -/
theorem Updates.store (h : Updates f s u) {a : Word} {v : Byte} (ha : a ∈ formStores f s) :
    Ensures (Updates f s) (u.withWrite a v .next) :=
  h.withWrite ha fun _ hw => .next hw

theorem updates_push16 {v : Word} {k : State → Result} (ha : formStores f s = [s.sp - 1, s.sp - 2])
    (hs : formWritesSp f = true) (hk : ∀ w, Updates f s w → Ensures (Updates f s) (k w)) :
    Ensures (Updates f s) (s.push16 v k) :=
  Updates.refl.withWrite (by simp [ha]) fun _ h1 => h1.withWrite (by simp [ha]) fun _ h2 => hk _ (h2.step (.sp _ hs))

theorem updates_pop16 {k : Word → State → Result} (hs : formWritesSp f = true)
    (hk : ∀ v w, Updates f s w → Ensures (Updates f s) (k v w)) : Ensures (Updates f s) (s.pop16 k) :=
  Updates.refl.withRead fun _ => Updates.refl.withRead fun _ => hk _ _ (Updates.refl.step (.sp _ hs))

theorem updates_callTo (v : Word) (ha : formStores f s = [s.sp - 1, s.sp - 2]) (hs : formWritesSp f = true)
    (hp : formIsTransfer f = true) : Ensures (Updates f s) (callTo v s) :=
  updates_push16 ha hs fun _ h => .next (h.step (.pc v hp))

theorem updates_returnFrom (hs : formWritesSp f = true) (hp : formIsTransfer f = true) :
    Ensures (Updates f s) (returnFrom s) :=
  updates_pop16 hs fun _ _ h => .next (h.step (.pc _ hp))

theorem updates_jump (v : Word) (hp : formIsTransfer f = true) : Updates f s (s.jump v) := Updates.refl.step (.pc v hp)

theorem Updates.setStackPair {p : StackPair} (h : Updates (.pop p) s u) (v : Word) :
    Updates (.pop p) s (u.setStackPair p v) := by
  cases p with
  | bc => exact (h.setReg (r := .b) (hiByte v) (by decide)).setReg (r := .c) (loByte v) (by decide)
  | de => exact (h.setReg (r := .d) (hiByte v) (by decide)).setReg (r := .e) (loByte v) (by decide)
  | hl => exact h.setHl v (.inl rfl)
  | af =>
    have hf : Updates (.pop .af) s (u.writeF (loByte v)) := State.writeF_eq_setFlags (loByte v) ▸ h.setFlags _ _ _ _ rfl
    exact hf.setReg (r := .a) (hiByte v) (by decide)

end

/-- The meaning of a form is a sequence of the writes that the form may make. -/
theorem effect_updates (f : Form) (s : State) : Ensures (Updates f s) (effect f s) := by
  have h0 : Updates f s s := .refl
  cases f with
  | ldRR dst _ | ldRD8 dst _ | resR _ dst | setR _ dst => exact .next (h0.setReg (r := dst) _ (.head _))
  | ldRAtHl dst => exact h0.withRead fun v => .next (h0.setReg (r := dst) v (.head _))
  | ldAtHlR _ | ldAtHlD8 _ | ldAtBcA | ldAtDeA | ldAtA16A _ | ldhAtA8A _ | ldAtCA => exact h0.store (.head _)
  | ldAAtBc | ldAAtDe | ldAAtA16 _ | ldhAAtA8 _ | ldAAtC =>
    exact h0.withRead fun v => .next (h0.setReg (r := .a) v (.head _))
  | ldAtHliA | ldAtHldA => exact h0.withWrite (.head _) fun _ h => .next (h.setHl _ (.inl rfl))
  | ldAAtHli | ldAAtHld =>
    exact h0.withRead fun v => .next ((h0.setReg (r := .a) v (by decide)).setHl _ (.inr rfl))
  | ldRrD16 p _ | incRr p | decRr p => exact .next (h0.setPair p _ rfl rfl)
  | ldAtA16Sp nn => exact h0.withWrite (.head _) fun _ h => h.store (.tail _ (.head _))
  | ldSpHl => exact .next (h0.step (.sp _ rfl))
  | ldHlSpR8 _ | addHlRr _ => exact .next ((h0.setFlags _ _ _ _ rfl).setHl _ (.inl rfl))
  | push p => exact updates_push16 rfl rfl fun _ h => .next h
  | pop p => exact updates_pop16 rfl fun v _ h => .next (h.setStackPair v)
  | aluR op _ | aluD8 op _ => exact .next (h0.alu op _ rfl rfl)
  | aluAtHl op => exact h0.withRead fun v => .next (h0.alu op v rfl rfl)
  | incR dst | decR dst => exact .next ((h0.setFlagsButC _ _ _ rfl).setReg (r := dst) _ (.head _))
  | incAtHl | decAtHl => exact h0.withRead fun v => (h0.setFlagsButC _ _ _ rfl).store (.head _)
  | daa =>
    have hf : Updates .daa s (s.putFlags (daa8 s.a s.nf s.hf s.cf)) :=
      h0.step (.flags (by decide) nofun (fun _ => rfl) nofun nofun)
    exact .next (hf.setReg (r := .a) _ (by decide))
  | cpl =>
    have hf : Updates .cpl s (s.setFlags s.zf true true s.cf) :=
      h0.step (.flags (by decide) (fun _ => rfl) nofun nofun (fun _ => rfl))
    exact .next (hf.setReg (r := .a) _ (by decide))
  | scf | ccf => exact .next (h0.step (.flags (by decide) (fun _ => rfl) nofun nofun nofun))
  | addSpR8 e => exact .next ((h0.setFlags _ _ _ _ rfl).step (.sp _ rfl))
  | rlca | rrca | rla | rra => exact .next ((h0.setFlags _ _ _ _ rfl).setReg (r := .a) _ (by decide))
  | jp _ | jpAtHl | jr _ => exact .next (updates_jump _ rfl)
  | jpCc cc _ | jrCc cc _ =>
    simp only [effect, opJpCc, opJrCc]
    split
    · exact .next (updates_jump _ rfl)
    · exact .next h0
  | call nn | rst n => exact updates_callTo _ rfl rfl rfl
  | callCc cc nn =>
    simp only [effect, opCallCc]
    split
    case isTrue hcc => exact updates_callTo nn (if_pos hcc) rfl rfl
    case isFalse => exact .next h0
  | ret | reti => exact updates_returnFrom rfl rfl
  | retCc cc =>
    simp only [effect, opRetCc]
    split
    · exact updates_returnFrom rfl rfl
    · exact .next h0
  | nop | stop _ | halt | di | ei => exact .next h0
  | prefixCb => exact .next (h0.step (.cur _ (.inl rfl)))
  | undef op => exact .next ((h0.step (.cur none (.inr ⟨op, rfl⟩))).step (.latch _))
  | rotR _ r => exact .next ((h0.setReg (r := r) _ (.head _)).setFlags _ _ _ _ rfl)
  | rotAtHl _ =>
    exact h0.withRead fun v => h0.withWrite (.head _) fun _ h => .next (h.setFlags _ _ _ _ rfl)
  | bitR _ _ => exact .next (h0.setFlagsButC _ _ _ rfl)
  | bitAtHl _ => exact h0.withRead fun v => .next (h0.setFlagsButC _ _ _ rfl)
  | resAtHl _ | setAtHl _ => exact h0.withRead fun v => h0.store (.head _)


theorem exec_updates {i : Instr} {s t : State} (h : exec i s = .next t) : Updates i.form s t :=
  effect_updates i.form s t (exec_eq_effect i s ▸ h)

/-! ### What every single write leaves alone -/

section
variable {f : Form} {s u w : State}

/-- A field that every single write of a form keeps is kept by the form. -/
theorem Updates.keeps {α : Type} {π : State → α} (h : Updates f s u) (hπ : ∀ {u w}, Update f s u w → π w = π u) :
    π u = π s := by
  induction h with
  | refl => rfl
  | step _ h' ih => exact (hπ h').trans ih

theorem Update.getReg {r : Reg8} (h : Update f s u w) (hr : r ∉ formDests f) : w.getReg r = u.getReg r := by
  cases h with
  | reg v hq => exact State.getReg_setReg_of_ne u v fun e => hr (e ▸ hq)
  | flags => exact State.getReg_setFlags ..
  | store _ hw => exact (State.writeByte_busFrame hw).keeps (π := (·.getReg r)) rfl
  | _ => cases r <;> rfl

theorem Update.sp_eq (h : Update f s u w) (hs : formWritesSp f = false) : w.sp = u.sp := by
  cases h with
  | reg => exact State.setReg_sp ..
  | sp _ hs' => exact absurd (hs.symm.trans hs') nofun
  | store _ hw => exact (State.writeByte_busFrame hw).keeps rfl
  | _ => rfl

theorem Update.pc_eq (h : Update f s u w) (hp : formIsTransfer f = false) : w.pc = u.pc := by
  cases h with
  | reg => exact State.setReg_pc ..
  | pc _ hp' => exact absurd (hp.symm.trans hp') nofun
  | store _ hw => exact (State.writeByte_busFrame hw).keeps rfl
  | _ => rfl

/-- Every flag outside the mask of the form is kept (10_state.md R16). -/
theorem Update.flag_eq {k : Nat} (h : Update f s u w) (hk : 4 ≤ k) (hm : (formFlagMask f).getLsbD k = false) :
    w.f.getLsbD k = u.f.getLsbD k := by
  cases h with
  | reg => rw [State.setReg_f]
  | @flags z n hf c _ h7 h6 h5 h4 =>
    obtain ⟨hz, hn, hh, hc⟩ := packF_bits z n hf c
    rw [State.setFlags_f]
    obtain rfl | rfl | rfl | rfl | hk : k = 4 ∨ k = 5 ∨ k = 6 ∨ k = 7 ∨ 8 ≤ k := by omega
    · exact hc.trans (h4 hm)
    · exact hh.trans (h5 hm)
    · exact hn.trans (h6 hm)
    · exact hz.trans (h7 hm)
    · rw [BitVec.getLsbD_of_ge _ _ hk, BitVec.getLsbD_of_ge _ _ hk]
  | store _ hw => exact (State.writeByte_busFrame hw).keeps (π := fun u => u.f.getLsbD k) rfl
  | _ => rfl

theorem Update.f_eq (h : Update f s u w) (hm : formFlagMask f = 0) : w.f = u.f := by
  cases h with
  | reg => exact State.setReg_f ..
  | flags hm' => exact absurd hm hm'
  | store _ hw => exact (State.writeByte_busFrame hw).keeps rfl
  | _ => rfl

theorem Update.cur_eq (h : Update f s u w) (hf : ¬ formNoHandler f) : w.cur = u.cur := by
  cases h with
  | reg => exact State.setReg_cur ..
  | store _ hw => exact (State.writeByte_busFrame hw).keeps rfl
  | cur _ hf' => exact absurd hf' hf
  | _ => rfl

/-- The fields that no instruction writes: the last record, the breakpoint registers (10_state.md R24, R31), the image
(20_memory.md R43). -/
theorem Update.untouched (h : Update f s u w) :
    (w.last, w.bpEn, w.bpAddr, w.image) = (u.last, u.bpEn, u.bpAddr, u.image) := by
  cases h with
  | reg => simp
  | store _ hw => exact (State.writeByte_busFrame hw).keeps (π := fun u => (u.last, u.bpEn, u.bpAddr, u.image)) rfl
  | _ => rfl

theorem Updates.untouched (h : Updates f s u) :
    u.last = s.last ∧ u.bpEn = s.bpEn ∧ u.bpAddr = s.bpAddr ∧ u.image = s.image := by
  simpa using h.keeps (π := fun u => (u.last, u.bpEn, u.bpAddr, u.image)) Update.untouched

end

theorem not_formNoHandler {i : Instr} (h : i.HasHandler = true) : ¬ formNoHandler i.form := by
  rintro (e | ⟨op, e⟩) <;> simp [Instr.HasHandler, Instr.isBarePrefix, Instr.isHole, e] at h

/-- Settles O59: an instruction is a sequence of single writes, and each of them keeps what the statement names. -/
theorem registerFrame : Obligations.RegisterFrame := by
  intro i s t h
  have hu := exec_updates h
  obtain ⟨hlast, hbpEn, hbpAddr, himage⟩ := hu.untouched
  exact ⟨fun _ hr => hu.keeps (·.getReg hr), fun hs => hu.keeps (·.sp_eq hs), fun hp => hu.keeps (·.pc_eq hp),
    fun k hk hm => hu.keeps (π := fun u => u.f.getLsbD k) (·.flag_eq hk hm), fun hm => hu.keeps (·.f_eq hm),
    hlast, hbpEn, hbpAddr, himage, fun hi => hu.keeps (·.cur_eq (not_formNoHandler hi))⟩


/-! ### The invariant without the records -/

/-- The part of `State.Inv` that does not speak of the records `cur` and `last`. -/
structure State.DataInv (s : State) : Prop where
  ram : Cells.wf Config.ramBase Config.spaceSize s.ram = true
  imageCells : Cells.wf 0 s.image.size s.image.cells = true
  imageValid : s.image.size = 0 ∨ s.image.valid = true
  flags : s.f &&& 0x0F = 0
  bank : s.romBank.extractLsb' 0 5 ≠ 0

section
variable {f : Form} {s t u w : State}

/-- The data invariant reads four fields. -/
theorem State.DataInv.congr (h : s.DataInv) (e : (t.ram, t.image, t.f, t.romBank) = (s.ram, s.image, s.f, s.romBank)) :
    t.DataInv := by
  obtain ⟨hram, himage, hf, hbank⟩ : t.ram = s.ram ∧ t.image = s.image ∧ t.f = s.f ∧ t.romBank = s.romBank := by simpa using e
  exact ⟨hram ▸ h.ram, himage ▸ h.imageCells, himage ▸ h.imageValid, hf ▸ h.flags, hbank ▸ h.bank⟩

theorem State.Inv.dataInv (h : s.Inv) : s.DataInv := ⟨h.ram, h.imageCells, h.imageValid, h.flags, h.bank⟩

/-- The invariant from its data part and what it says of the records. -/
theorem State.DataInv.inv (h : s.DataInv) (hcur : ∀ r, s.cur = some r → curOk s.fault r = true)
    (hlast : ∀ r, s.last = some r → lastOk r = true) : s.Inv :=
  ⟨h.ram, h.imageCells, h.imageValid, h.flags, h.bank, hcur, hlast⟩

/-- A bus write keeps the data invariant (20_memory.md R48 to R52). -/
theorem State.DataInv.writeByte {a : Word} {v : Byte} (h : s.DataInv) (hw : s.writeByte a v = .ok t) : t.DataInv := by
  have himage : t.image = s.image := (State.writeByte_busFrame hw).keeps rfl
  refine ⟨?_, himage ▸ h.imageCells, himage ▸ h.imageValid, ?_, State.writeByte_bank hw h.bank⟩
  · obtain ⟨ha, rfl⟩ | ⟨_, _, ht⟩ := State.writeByte_ok hw
    · exact Cells.wf_write h.ram v ha (addr_lt a)
    · rw [ht]; exact h.ram
  · rw [(State.writeByte_busFrame hw).keeps (π := State.f) rfl]; exact h.flags

/-- Every write that a form may make keeps the data invariant. -/
theorem State.DataInv.update (h : u.DataInv) (hu : Update f s u w) : w.DataInv := by
  cases hu with
  | reg => exact h.congr (by simp)
  | flags => exact ⟨h.ram, h.imageCells, h.imageValid, by rw [State.setFlags_f]; exact packF_low .., h.bank⟩
  | store _ hw => exact h.writeByte hw
  | _ => exact h.congr rfl

theorem State.DataInv.updates (h : s.DataInv) (hu : Updates f s u) : u.DataInv := by
  induction hu with
  | refl => exact h
  | step _ h' ih => exact ih.update h'

end

/-! ### Descriptors and handlers -/

theorem descOf_ins {op : Byte} {d : Desc} (h : primary op = .ins d) (ps : List Byte) : descOf (op :: ps) = some d := by
  simp only [descOf, h]

theorem descOf_bare {op : Byte} (h : primary op = .bare) (b : Byte) (ps : List Byte) :
    descOf (op :: b :: ps) = some (secondary b) := by
  simp only [descOf, h]

/-- A descriptor once resolved stays as further parameter bytes are taken (10_state.md R22). -/
theorem descOf_append {bs : List Byte} {d : Desc} (h : descOf bs = some d) (cs : List Byte) : descOf (bs ++ cs) = some d := by
  rcases bs with _ | ⟨op, ps⟩
  · cases h
  · cases hp : primary op with
    | ins d' => exact (descOf_ins hp _).trans ((descOf_ins hp ps).symm.trans h)
    | hole => simp [descOf, hp] at h
    | bare =>
      rcases ps with _ | ⟨b, ps⟩
      · simp [descOf, hp] at h
      · exact (descOf_bare hp b _).trans ((descOf_bare hp b ps).symm.trans h)

/-- The only opcode that asks for a second one is the byte 0xCB (30_encoding.md R82). -/
theorem eq_prefixByte_of_bare {op : Byte} (h : primary op = .bare) : op = prefixByte := by
  have hs := primary_spec op
  rw [h] at hs
  cases hs with
  | bare e => exact e

theorem primary_prefixByte : primary prefixByte = .bare := rfl

theorem isHole_of_hole {op : Byte} {i : Instr} (h : primary op = .hole i) : i.isHole = true := by
  have hs := primary_spec op
  rw [h] at hs
  cases hs with
  | hole _ hi _ => exact hi

/-- An entry with a handler declares at least one byte and one cycle unit (30_encoding.md R80, R86). -/
theorem ins_counts_pos {op : Byte} {d : Desc} (h : primary op = .ins d) : 1 ≤ d.length ∧ 1 ≤ d.cycles := by
  have hs := primary_spec op
  rw [h] at hs
  cases hs <;> omega

/-- Bytes with a descriptor decode to an instruction with a handler (30_encoding.md R86, R89). -/
theorem hasHandler_of_decode {bs rest : List Byte} {d : Desc} {i : Instr} (hd : descOf bs = some d)
    (h : decode bs = .ok (i, rest)) : i.HasHandler = true := by
  rcases bs with _ | ⟨op, ps⟩
  · cases hd
  have hs := primary_spec op
  simp only [descOf, decode] at hd h
  generalize primary op = entry at hs hd h
  cases hs with
  | plain hh _ _ _ _ hi =>
    simp only [hh, Handler.apply, Except.ok.injEq, Prod.mk.injEq] at h
    obtain ⟨rfl, -⟩ := h
    exact hi
  | withByte hh _ _ _ _ hi =>
    rcases ps with _ | ⟨p, ps⟩ <;> simp only [hh, Handler.apply, Except.ok.injEq, Prod.mk.injEq, reduceCtorEq] at h
    obtain ⟨rfl, -⟩ := h
    exact hi p
  | withWord hh _ _ _ _ hi =>
    rcases ps with _ | ⟨p, _ | ⟨p', ps⟩⟩ <;>
      simp only [hh, Handler.apply, Except.ok.injEq, Prod.mk.injEq, reduceCtorEq] at h
    obtain ⟨rfl, -⟩ := h
    exact hi _
  | hole => cases hd
  | bare =>
    rcases ps with _ | ⟨b, ps⟩
    · cases hd
    obtain ⟨j, hj⟩ := secondary_spec b
    simp only [hj.handler, Handler.apply, Except.ok.injEq, Prod.mk.injEq] at h
    obtain ⟨rfl, -⟩ := h
    exact hj.hasHandler

/-- A hole drops `cur` and latches a fault (47_system.md R231). -/
theorem exec_hole {i : Instr} (h : i.isHole = true) (s : State) :
    ∃ q, exec i s = .next { s with cur := none, fault := some q } := by
  unfold Instr.isHole at h
  split at h
  case h_1 op hf => exact ⟨_, exec_of_form hf s⟩
  case h_2 => cases h

/-! ### Records with counters that have advanced together -/

/-- A record whose descriptor is known, with the counters that the step protocol gives it (40_engine_and_alu_primitives.md R103, R104):
a parameter byte for each fetch after the opcode, and both counters advanced together, each up to its budget. -/
structure InstrRecord.Counted (r : InstrRecord) (d : Desc) : Prop where
  desc : r.desc = some d
  params : r.params.length + 1 = r.fetch
  cyclePos : 1 ≤ r.cycle
  fetch : r.fetch = min (max r.fetch r.cycle) d.length
  cycle : r.cycle = min (max r.fetch r.cycle) d.cycles

section
variable {r : InstrRecord} {d : Desc} {q : Option FaultRecord}

theorem InstrRecord.atBudget_iff (h : r.desc = some d) : r.atBudget = true ↔ r.fetch = d.length ∧ r.cycle = d.cycles := by
  simp [InstrRecord.atBudget, h]

/-- What `curOk` says of a record whose descriptor is known. -/
theorem curOk_iff (h : r.desc = some d) : curOk q r = true ↔
    r.Counted d ∧ (r.complete = true → r.atBudget = true) ∧ (r.complete = false → r.atBudget = true → q.isSome = true) := by
  constructor
  · intro hc
    simp only [curOk, h, Bool.and_eq_true, decide_eq_true_eq] at hc
    obtain ⟨⟨⟨⟨⟨hp, hpos⟩, hf⟩, hcy⟩, hdone⟩, hstuck⟩ := hc
    refine ⟨⟨h, hp, hpos, hf, hcy⟩, fun e => by simpa [e] using hdone, fun e e' => by simpa [e, e'] using hstuck⟩
  · rintro ⟨⟨_, hp, hpos, hf, hcy⟩, hdone, hstuck⟩
    simp only [curOk, h, Bool.and_eq_true, decide_eq_true_eq]
    refine ⟨⟨⟨⟨⟨hp, hpos⟩, hf⟩, hcy⟩, ?_⟩, ?_⟩
    · cases hc : r.complete with
      | false => rfl
      | true => exact hdone hc
    · cases hc : r.complete with
      | true => rfl
      | false =>
        cases hb : r.atBudget with
        | false => rfl
        | true => exact hstuck hc hb

/-- A record without a descriptor that `curOk` admits is that of the byte 0xCB alone (10_state.md R23). -/
theorem curOk_iff_of_noDesc (h : r.desc = none) : curOk q r = true ↔
    r = { opcode := prefixByte, params := [], fetch := 1, cycle := 1, complete := false } := by
  obtain ⟨op, ps, m, n, c⟩ := r
  simp [curOk, h, and_assoc]

/-- Latching a fault admits no fewer records. -/
theorem curOk_latch (h : curOk q r = true) (q' : FaultRecord) : curOk (some q') r = true := by
  cases hd : r.desc with
  | none => exact (curOk_iff_of_noDesc hd).2 ((curOk_iff_of_noDesc hd).1 h)
  | some d =>
    obtain ⟨hc, hdone, _⟩ := (curOk_iff hd).1 h
    exact (curOk_iff hd).2 ⟨hc, hdone, fun _ _ => rfl⟩

/-- A record in flight with a fault latched may stand at its budgets (40_engine_and_alu_primitives.md R111). -/
theorem InstrRecord.Counted.curOk_of_latch (h : r.Counted d) (hn : r.complete = false) (q : FaultRecord) :
    curOk (some q) r = true :=
  (curOk_iff h.desc).2 ⟨h, fun e => absurd (hn.symm.trans e) nofun, fun _ _ => rfl⟩

end

/-! ### Records along the step protocol -/

/-- The record after the opcode byte is taken (40_engine_and_alu_primitives.md R103). -/
theorem counted_first {op : Byte} {d : Desc} (h : primary op = .ins d) :
    InstrRecord.Counted { opcode := op, params := [], fetch := 1, cycle := 1, complete := false } d := by
  obtain ⟨hl, hc⟩ := ins_counts_pos h
  exact ⟨descOf_ins h [], rfl, Nat.le_refl 1, (Nat.min_eq_left hl).symm, (Nat.min_eq_left hc).symm⟩

/-- The record after the second opcode of the secondary table (40_engine_and_alu_primitives.md R103). -/
theorem counted_prefixed {op : Byte} (h : primary op = .bare) (b : Byte) :
    InstrRecord.Counted { opcode := op, params := [b], fetch := 2, cycle := 2, complete := false } (secondary b) := by
  obtain ⟨i, hi⟩ := secondary_spec b
  exact ⟨descOf_bare h b [], rfl, Nat.le_succ 1, by rw [hi.length]; rfl, (Nat.min_eq_left hi.cycles_pos).symm⟩

/-- The record after the first of two parameter bytes (40_engine_and_alu_primitives.md R104). -/
theorem counted_second {op : Byte} {d : Desc} (h : primary op = .ins d) (hl : 2 ≤ d.length) (p : Byte) :
    InstrRecord.Counted { opcode := op, params := [p], fetch := 2, cycle := min 2 d.cycles, complete := false } d := by
  have hc := (ins_counts_pos h).2
  refine ⟨descOf_ins h [p], rfl, ?_, ?_, ?_⟩
  all_goals dsimp only; omega

/-- The record at both budgets, all bytes fetched (40_engine_and_alu_primitives.md R104, R109). -/
theorem counted_full {op : Byte} {ps : List Byte} {d : Desc} (h : descOf (op :: ps) = some d) (hl : ps.length + 1 = d.length)
    (hc : 1 ≤ d.cycles) :
    InstrRecord.Counted { opcode := op, params := ps, fetch := d.length, cycle := d.cycles, complete := false } d :=
  ⟨h, hl, hc, (Nat.min_eq_right (Nat.le_max_left ..)).symm, (Nat.min_eq_right (Nat.le_max_right ..)).symm⟩

section
variable {r : InstrRecord} {d : Desc}

/-- A fetch and a cycle unit, the counter of cycles stopping at its budget (40_engine_and_alu_primitives.md R104). -/
theorem InstrRecord.Counted.fetchNext (h : r.Counted d) (hf : r.fetch < d.length) (b : Byte) :
    InstrRecord.Counted { r with params := r.params ++ [b], fetch := r.fetch + 1,
                                 cycle := if r.cycle < d.cycles then r.cycle + 1 else r.cycle } d := by
  obtain ⟨hdesc, hparams, hpos, hfetch, hcycle⟩ := h
  refine ⟨descOf_append hdesc [b], ?_, ?_, ?_, ?_⟩
  · simp [hparams]
  all_goals dsimp only; split <;> omega

/-- A cycle unit alone, all bytes being fetched (40_engine_and_alu_primitives.md R104). -/
theorem InstrRecord.Counted.cycleNext (h : r.Counted d) (hf : ¬ r.fetch < d.length) :
    InstrRecord.Counted { r with cycle := if r.cycle < d.cycles then r.cycle + 1 else r.cycle } d := by
  obtain ⟨hdesc, hparams, hpos, hfetch, hcycle⟩ := h
  refine ⟨hdesc, hparams, ?_, ?_, ?_⟩
  all_goals dsimp only; split <;> omega

end

/-! ### The invariant along the step protocol -/

section
variable {s t : State} {r : InstrRecord} {d : Desc}

theorem State.Inv.setPc (h : s.Inv) (w : Word) : ({ s with pc := w } : State).Inv :=
  State.DataInv.inv (h.dataInv.congr rfl) h.cur h.last

theorem State.Inv.latch (h : s.Inv) (q : FaultRecord) : ({ s with fault := some q } : State).Inv :=
  State.DataInv.inv (h.dataInv.congr rfl) (fun r hr => curOk_latch (h.cur r hr) q) h.last

theorem State.Inv.setCur (h : s.Inv) (hr : curOk s.fault r = true) : ({ s with cur := some r } : State).Inv :=
  State.DataInv.inv (h.dataInv.congr rfl) (fun _ e => Option.some.inj e ▸ hr) h.last

/-- A record with bytes still to fetch is one the step protocol leaves (40_engine_and_alu_primitives.md R104). -/
theorem State.Inv.record (h : s.Inv) {op : Byte} {ps : List Byte} {m n : Nat}
    (hr : InstrRecord.Counted { opcode := op, params := ps, fetch := m, cycle := n, complete := false } d) (hm : m < d.length) :
    (s.record op ps m n).Inv :=
  h.setCur ((curOk_iff hr.desc).2
    ⟨hr, nofun, fun _ e => absurd ((InstrRecord.atBudget_iff hr.desc).1 e).1 (Nat.ne_of_lt hm)⟩)

/-- Completion (40_engine_and_alu_primitives.md R105, R111): the meaning of an instruction with a handler, applied with its record at
its budgets, then the record marked complete unless a fault was raised. -/
theorem State.Inv.finish_exec (h : s.Inv) (hr : r.Counted d) (hn : r.complete = false) (hb : r.atBudget = true) {i : Instr}
    (hi : i.HasHandler = true) (ht : exec i { s with cur := some r } = .next t) : t.finish.Inv := by
  have hu := exec_updates ht
  have hdata := State.DataInv.updates (s := { s with cur := some r }) (h.dataInv.congr rfl) hu
  have hcur : t.cur = some r := hu.keeps (π := State.cur) (·.cur_eq (not_formNoHandler hi))
  have hlast : t.last = s.last := hu.untouched.1
  cases hf : t.fault with
  | some q =>
    rw [State.finish_of_fault hf]
    refine hdata.inv (fun r' e => ?_) (hlast ▸ h.last)
    rw [hf, ← Option.some.inj (hcur.symm.trans e)]
    exact hr.curOk_of_latch hn q
  | none =>
    rw [State.finish_of_ok hf hcur]
    have hdone : InstrRecord.Counted { r with complete := true } d := ⟨hr.desc, hr.params, hr.cyclePos, hr.fetch, hr.cycle⟩
    refine State.DataInv.inv (hdata.congr rfl) (fun r' e => ?_) (fun r' e => ?_)
    · rw [← Option.some.inj e]
      exact (curOk_iff hdone.desc).2 ⟨hdone, fun _ => hb, nofun⟩
    · rw [← Option.some.inj e]
      have hb' : ({ r with complete := true } : InstrRecord).atBudget = true := hb
      simp [lastOk, hb', hr.params]

theorem State.Inv.executeRecord (h : s.Inv) (hr : r.Counted d) (hn : r.complete = false) (hb : r.atBudget = true) :
    Ensures (fun p => p.2.Inv) (executeRecord r { s with cur := some r }) := by
  unfold Machine.executeRecord
  split
  case h_1 => exact .refused _
  case h_2 i _ hdec =>
    have hi := hasHandler_of_decode hr.desc hdec
    obtain ⟨t, ht⟩ := exec_total i { s with cur := some r }
    have hinv := h.finish_exec hr hn hb hi ht
    simp only [ht]
    split
    case h_1 q hf => exact .next (State.finish_of_fault hf ▸ hinv)
    case h_2 => exact .next hinv

/-- Line 3 of R102 (40_engine_and_alu_primitives.md) on a record in flight. -/
theorem State.Inv.settleRecord (h : s.Inv) (hr : r.Counted d) (hn : r.complete = false) :
    Ensures (fun p => p.2.Inv) (settleRecord r { s with cur := some r }) := by
  unfold Machine.settleRecord
  split
  case isTrue hb => exact h.executeRecord hr hn hb
  case isFalse hb =>
    exact .next (h.setCur ((curOk_iff hr.desc).2 ⟨hr, fun e => absurd (hn.symm.trans e) nofun, fun _ e => absurd e hb⟩))

/-- The byte 0xCB in flight (40_engine_and_alu_primitives.md R103). -/
theorem State.Inv.setCurPrefix (h : s.Inv) :
    ({ s with cur := some { opcode := prefixByte, params := [], fetch := 1, cycle := 1, complete := false } } : State).Inv :=
  h.setCur ((curOk_iff_of_noDesc rfl).2 rfl)

theorem State.Inv.exec_hole (h : s.Inv) {i : Instr} (hi : i.isHole = true) (ht : exec i s = .next t) : t.Inv := by
  obtain ⟨q, hq⟩ := Machine.exec_hole hi s
  rw [← Host.Outcome.next.inj (hq.symm.trans ht)]
  exact State.DataInv.inv (h.dataInv.congr rfl) nofun h.last

theorem State.Inv.dispatchOpcode (h : s.Inv) (op : Byte) : Ensures (fun p => p.2.Inv) (dispatchOpcode op s) := by
  unfold Machine.dispatchOpcode
  split
  case h_1 i hp =>
    obtain ⟨t, ht⟩ := exec_total i s
    rw [ht]
    exact .next (h.exec_hole (isHole_of_hole hp) ht)
  case h_2 => exact .next h.setCurPrefix
  case h_3 d hp => exact h.settleRecord (counted_first hp) rfl

theorem State.Inv.dispatchStep (h : s.Inv) (inj : Option Byte) : Ensures (fun p => p.2.Inv) (dispatchStep inj s) := by
  unfold Machine.dispatchStep
  split
  · exact h.dispatchOpcode _
  · split
    case h_1 op u hop => exact State.fetchByte_ok hop ▸ (h.setPc _).dispatchOpcode op
    case h_2 q _ => exact .next (h.latch q)

theorem State.Inv.continueStep (h : s.Inv) (hc : s.cur = some r) (hn : r.complete = false) :
    Ensures (fun p => p.2.Inv) (continueStep r s) := by
  have hok := h.cur r hc
  unfold Machine.continueStep
  split
  case h_1 hd =>
    obtain rfl := (curOk_iff_of_noDesc hd).1 hok
    split
    case h_1 q _ => exact .next (h.latch q)
    case h_2 b u hb => exact State.fetchByte_ok hb ▸ (h.setPc _).settleRecord (counted_prefixed primary_prefixByte b) rfl
  case h_2 d hd =>
    obtain ⟨hr, -, -⟩ := (curOk_iff hd).1 hok
    dsimp only
    split
    case isTrue hf =>
      split
      case h_1 q _ => exact .next (h.latch q)
      case h_2 b u hb => exact State.fetchByte_ok hb ▸ (h.setPc _).settleRecord (hr.fetchNext hf b) hn
    case isFalse hf => exact h.settleRecord (hr.cycleNext hf) hn

/-- What is in flight is the current record, not complete (10_state.md R23). -/
theorem State.inFlight_some (h : s.inFlight = some r) : s.cur = some r ∧ r.complete = false := by
  unfold State.inFlight at h
  split at h
  case h_1 hc =>
    split at h
    case isTrue => cases h
    case isFalse hn => exact Option.some.inj h ▸ ⟨hc, Bool.eq_false_iff.2 hn⟩
  case h_2 => cases h

theorem State.Inv.engineStep (h : s.Inv) (inj : Option Byte) : Ensures (fun p => p.2.Inv) (engineStep inj s) := by
  unfold Machine.engineStep
  split
  · split
    · exact .fault _
    · split
      case h_1 r hr =>
        obtain ⟨hc, hn⟩ := State.inFlight_some hr
        exact h.continueStep hc hn
      case h_2 =>
        split
        · exact .next h
        · exact h.dispatchStep inj
  · exact .refused _

theorem State.Inv.engineRun (n : Nat) (h : s.Inv) : Ensures State.Inv (engineRun n s) := by
  induction n generalizing s with
  | zero => exact .next h
  | succ n ih =>
    have hstep := h.engineStep none
    unfold Machine.engineRun
    split
    case h_1 u hu => exact ih (hstep _ hu)
    case h_2 u _ hu => exact .next (hstep _ hu)
    case h_3 => exact .fault _
    case h_4 => exact .refused _

/-! ### The invariant at instruction granularity -/

theorem State.Inv.runInstr (h : s.Inv) {i : Instr} {op : Byte} {ps : List Byte} (hd : descOf (op :: ps) = some d)
    (hl : ps.length + 1 = d.length) (hc : 1 ≤ d.cycles) (hi : i.HasHandler = true) :
    Ensures State.Inv (runInstr i d op ps s) := by
  obtain ⟨t, ht⟩ := exec_total i (s.record op ps d.length d.cycles)
  have hr := counted_full hd hl hc
  unfold Machine.runInstr
  rw [ht]
  exact .next (h.finish_exec hr rfl ((InstrRecord.atBudget_iff hr.desc).2 ⟨rfl, rfl⟩) hi ht)

/-- A fetch moves `PC` or latches its fault (40_engine_and_alu_primitives.md R101, R111). -/
theorem State.Inv.withFetch (h : s.Inv) {k : Byte → State → Result} (hk : ∀ v u, u.Inv → Ensures State.Inv (k v u)) :
    Ensures State.Inv (s.withFetch k) :=
  .withFetch (fun v => hk v _ (h.setPc _)) (h.latch ·)

theorem State.Inv.runFetched (h : s.Inv) (op : Byte) : Ensures State.Inv (runFetched op s) := by
  unfold Machine.runFetched
  split
  case h_1 i hp => exact fun t ht => h.exec_hole (isHole_of_hole hp) ht
  case h_2 hp =>
    obtain rfl := eq_prefixByte_of_bare hp
    refine h.setCurPrefix.withFetch fun b u hu => ?_
    obtain ⟨i, hi⟩ := secondary_spec b
    simp only [hi.handler]
    exact hu.runInstr (descOf_bare hp b []) hi.length.symm (Nat.le_of_succ_le hi.cycles_pos) hi.hasHandler
  case h_3 d hp =>
    have hspec := hp ▸ primary_spec op
    have h1 := counted_first hp
    cases hspec with
    | plain hh _ hl hc _ hi =>
      simp only [hh]
      exact h.runInstr (descOf_ins hp []) hl.symm hc hi
    | withByte hh _ hl hc _ hi =>
      simp only [hh]
      refine (h.record h1 (by omega)).withFetch fun p u hu => ?_
      exact hu.runInstr (descOf_ins hp [p]) hl.symm hc (hi p)
    | withWord hh _ hl hc _ hi =>
      simp only [hh]
      refine (h.record h1 (by omega)).withFetch fun p u hu => ?_
      refine (hu.record (counted_second hp (by omega) p) (by omega)).withFetch fun p' w hw => ?_
      exact hw.runInstr (descOf_ins hp [p, p']) hl.symm hc (hi _)

theorem State.Inv.step (h : s.Inv) : Ensures State.Inv (step s) := by
  unfold Machine.step
  split
  · split
    · exact .fault _
    · split
      · exact h.engineRun maxSteps
      · split
        · exact .next h
        · exact h.withFetch fun op _ hu => hu.runFetched op
  · exact .refused _

end

/-- Settles O13: a step fetches and runs one instruction, or finishes one by host steps, and each part keeps the invariant. -/
theorem stepKeepsInv : Obligations.StepKeepsInv :=
  fun _ t h => h.step t

/-- Settles O14: each branch of the step protocol leaves a counted record and writes data only as an instruction may. -/
theorem engineStepKeepsInv : Obligations.EngineStepKeepsInv :=
  fun inj _ t r h => h.engineStep inj (r, t)

/-! ### What a host command can do -/

/-- The states a host command can leave (40_engine_and_alu_primitives.md R100). -/
inductive CommandLeaves (s : State) : Command → State → Prop where
  | unchanged (cmd : Command) : CommandLeaves s cmd s
  | load (image : Image) (ramInit : List Host.Cell) : CommandLeaves s (.load image ramInit) (s.load image ramInit).2
  | reset : CommandLeaves s .reset s.doReset
  | step {t : State} {r : StepResult} : engineStep none s = .next (r, t) → CommandLeaves s .step t
  | stepInjected {t : State} {r : StepResult} (op : Byte) : engineStep (some op) s = .next (r, t) →
      CommandLeaves s (.stepInjected op) t
  | setBreakpoint (en : Bool) (addr : Word) : CommandLeaves s (.setBreakpoint en addr) { s with bpEn := en, bpAddr := addr }
  | setByte {t : State} {addr : Int} {w : Word} {v : Byte} : s.writeByte w v = .ok t → CommandLeaves s (.setByte addr v) t
  | bulkWrite {addr : Int} {bs : List Byte} (a : Nat) : CommandLeaves s (.bulkWrite addr bs) (s.writeRun a bs).2

section
variable {s t : State} {cmd : Command} {resp : Response}

@[simp] theorem respond_snd (x : Except FaultRecord Unit × State) : (respond x).2 = x.2 := by
  unfold respond; split <;> rfl

theorem stepCommand_next {inj : Option Byte} (h : stepCommand inj s = .next (resp, t)) : ∃ r, engineStep inj s = .next (r, t) := by
  unfold stepCommand at h
  split at h
  case h_1 r u hu => exact ⟨r, by rw [hu, (Prod.mk.inj (Host.Outcome.next.inj h)).2]⟩
  all_goals cases h

/-- A host command that answers a next state leaves one of these. -/
theorem applyCommand_leaves (h : applyCommand cmd s = .next (resp, t)) : CommandLeaves s cmd t := by
  have same {r : Response} (e : (.next (r, s) : Host.Outcome (Response × State) Fault Refusal) = .next (resp, t)) :
      CommandLeaves s cmd t := (Prod.mk.inj (Host.Outcome.next.inj e)).2 ▸ .unchanged cmd
  unfold applyCommand at h
  cases cmd with
  | load image ramInit =>
    obtain rfl : _ = t := congrArg Prod.snd (Host.Outcome.next.inj h)
    rw [respond_snd]
    exact .load image ramInit
  | reset =>
    dsimp only at h
    split at h
    · cases h; exact .reset
    · cases h
  | step => obtain ⟨r, hr⟩ := stepCommand_next h; exact .step hr
  | stepInjected op => obtain ⟨r, hr⟩ := stepCommand_next h; exact .stepInjected op hr
  | setBreakpoint en addr => cases h; exact .setBreakpoint en addr
  | getByte addr =>
    dsimp only at h
    split at h
    · exact same h
    · split at h <;> exact same h
  | setByte addr v =>
    dsimp only at h
    split at h
    · exact same h
    · split at h
      · exact same h
      · cases h; exact .setByte (by assumption)
  | bulkRead addr n =>
    dsimp only at h
    split at h
    · exact same h
    · split at h <;> exact same h
  | bulkWrite addr bs =>
    dsimp only at h
    split at h
    · exact same h
    case h_2 a _ =>
      obtain rfl : _ = t := congrArg Prod.snd (Host.Outcome.next.inj h)
      rw [respond_snd]
      exact .bulkWrite a
  | queryOpcode _ | queryCurrent | queryLast | queryRegisters | queryController => exact same h

end

/-! ### The invariant under the host commands -/

section
variable {s t : State}

theorem State.Inv.writeByte {a : Word} {v : Byte} (h : s.Inv) (hw : s.writeByte a v = .ok t) : t.Inv := by
  have hkeep := State.writeByte_busFrame hw
  refine (h.dataInv.writeByte hw).inv ?_ ?_
  · rw [hkeep.keeps (π := State.cur) rfl, hkeep.keeps (π := State.fault) rfl]; exact h.cur
  · rw [hkeep.keeps (π := State.last) rfl]; exact h.last

/-- `Load` of an image and a RAM content in canonical form (20_memory.md R61, R62). -/
theorem State.Inv.load (h : s.Inv) {image : Image} {ramInit : List Host.Cell}
    (hi : Cells.wf 0 image.size image.cells = true) (hr : Cells.wf Config.ramBase Config.spaceSize ramInit = true) :
    (s.load image ramInit).2.Inv := by
  unfold State.load
  split
  case isTrue hv => exact ⟨hr, hi, .inr hv, h.flags, by simp, h.cur, nofun⟩
  case isFalse => exact ⟨h.ram, rfl, .inl rfl, h.flags, h.bank, h.cur, h.last⟩

/-- The seeded cells are RAM cells (70_reset_and_hazards.md R292). -/
theorem resetSeeds_bounds : ∀ c ∈ Config.resetSeeds, Config.ramBase ≤ c.1 ∧ c.1 < Config.spaceSize := by decide

@[simp] theorem State.doReset_ram (s : State) : s.doReset.ram = Cells.writeAll s.ram Config.resetSeeds := by
  unfold State.doReset; dsimp only
@[simp] theorem State.doReset_f (s : State) : s.doReset.f = Config.resetF := rfl

theorem State.Inv.doReset (h : s.Inv) : s.doReset.Inv where
  ram := by rw [State.doReset_ram]; exact Cells.wf_writeAll _ h.ram resetSeeds_bounds
  imageCells := h.imageCells
  imageValid := h.imageValid
  flags := by rw [State.doReset_f]; decide
  bank := h.bank
  cur := nofun
  last := h.last

end

/-- Settles O12: the seeded cells are RAM cells in canonical form; every other field is a literal. -/
theorem invAtReset : Obligations.InvAtReset :=
  ⟨Cells.wf_writeAll _ rfl resetSeeds_bounds, rfl, .inl rfl, rfl, by decide, nofun, nofun⟩

/-- Settles O15, by the states that a command can leave. -/
theorem commandsKeepInv : Obligations.CommandsKeepInv := by
  intro cmd s t resp h hload ht
  cases applyCommand_leaves ht with
  | unchanged => exact h
  | load image ramInit =>
    obtain ⟨hi, hr⟩ := hload image ramInit rfl
    exact h.load hi hr
  | reset => exact h.doReset
  | step hs => exact h.engineStep _ _ hs
  | stepInjected _ hs => exact h.engineStep _ _ hs
  | setBreakpoint => exact State.DataInv.inv (h.dataInv.congr rfl) h.cur h.last
  | setByte hw => exact h.writeByte hw
  | bulkWrite a => exact State.writeRun_induct (fun hu hw => State.Inv.writeByte hu hw) _ a h

/-- Settles O26, by the states that a command can leave. -/
theorem hostWritesNoRegister : Obligations.HostWritesNoRegister := by
  intro cmd s t resp hstep hinj hreset ht
  have ofBus (hb : BusFrame s t) :
      t = { s with bpEn := t.bpEn, bpAddr := t.bpAddr, ramEnable := t.ramEnable, romBank := t.romBank, ramBank := t.ramBank,
                   mode := t.mode, ram := t.ram, image := t.image, last := t.last } ∧
      (t.last = s.last ∨ t.last = none ∧ ∃ image ramInit, cmd = .load image ramInit ∧ image.valid = true) := by
    unfold BusFrame at hb
    rw [hb]
    exact ⟨rfl, .inl rfl⟩
  cases applyCommand_leaves ht with
  | unchanged => exact ofBus rfl
  | load image ramInit =>
    unfold State.load
    split
    case isTrue hv => exact ⟨rfl, .inr ⟨rfl, image, ramInit, rfl, hv⟩⟩
    case isFalse => exact ⟨rfl, .inl rfl⟩
  | reset => exact absurd rfl hreset
  | step => exact absurd rfl hstep
  | stepInjected op => exact absurd rfl (hinj op)
  | setBreakpoint => exact ⟨rfl, .inl rfl⟩
  | setByte hw => exact ofBus (State.writeByte_busFrame hw)
  | bulkWrite a =>
    exact ofBus (State.writeRun_induct (P := BusFrame s) (fun hu hw => hu.trans (State.writeByte_busFrame hw)) _ a rfl)

end Sys2Proof.Machine

/-! ## The memory map, the bank controller, `Load` and the host's bus commands (20_memory.md) -/

namespace Sys2Proof.Machine

/-! ### Reads of ROM space -/

/-- The banks that an image lacks are those that begin past its end (20_memory.md R44). -/
theorem Image.nbanks_le_iff (m : Image) (k : Nat) : m.nbanks ≤ k ↔ m.size ≤ k * 0x4000 := by
  unfold Image.nbanks Config.bankSize
  omega

/-- An access through a bank that the image lacks (20_memory.md R47, decision D19). -/
theorem Image.romByte_of_noBank {m : Image} {k : Nat} (h : m.size ≤ k * 0x4000) (off : Nat) :
    m.romByte k off = .error { kind := .outOfRange, info := k } := by
  rw [Image.romByte, if_pos ((m.nbanks_le_iff k).2 h)]

/-- An access past the end of the image's last bank (20_memory.md R47, decision D19). -/
theorem Image.romByte_of_noByte {m : Image} {k off : Nat} (hk : k * 0x4000 < m.size) (h : m.size ≤ k * 0x4000 + off) :
    m.romByte k off = .error { kind := .outOfRange, info := k * 0x4000 + off } := by
  rw [Image.romByte, if_neg (mt (m.nbanks_le_iff k).1 (Nat.not_le.2 hk)), Config.bankSize, if_pos h]

/-- An access inside the image (20_memory.md R47). The offset is one inside the bank, so the bank exists. -/
theorem Image.romByte_inside {m : Image} {k off : Nat} (ho : off < 0x4000) (h : k * 0x4000 + off < m.size) :
    m.romByte k off = .ok (m.byte (k * 0x4000 + off)) :=
  (m.romByte_eq k off ho).trans (if_pos h)

/-- Settles O6: the three branches of the bus, by address. -/
theorem readDecoding : Obligations.ReadDecoding := by
  intro s addr
  have bank0 (u : State) (h : addr.toNat ≤ 0x3FFF) : u.readByte addr = u.image.romByte 0 addr.toNat :=
    u.readByte_bank0 (Nat.lt_succ_of_le h)
  refine ⟨bank0 s, fun h h' => s.readByte_bankN h (Nat.lt_succ_of_le h'), fun h => s.readByte_ram h, fun en rb m bank h => ?_⟩
  rw [bank0 _ h, bank0 s h]

/-- Settles O7: either window reads the image through a bank and an offset inside it. -/
theorem romReads : Obligations.RomReads := by
  intro s addr bank off hwin
  obtain ⟨hread, ho⟩ : s.readByte addr = s.image.romByte bank off ∧ off < 0x4000 := by
    obtain ⟨h, rfl, rfl⟩ | ⟨h, h', rfl, hoff⟩ := hwin
    · exact ⟨s.readByte_bank0 (Nat.lt_succ_of_le h), by omega⟩
    · exact hoff ▸ ⟨s.readByte_bankN h (Nat.lt_succ_of_le h'), by omega⟩
  rw [hread]
  exact ⟨Image.romByte_inside ho, fun h hk => Image.romByte_of_noByte hk h, fun h => Image.romByte_of_noBank h off⟩

/-- Settles O8, by the laws of a store in canonical form. -/
theorem ramCells : Obligations.RamCells := by
  intro s addr v hw ha
  have hread := State.readByte_write_ram hw v ha
  exact ⟨_, s.writeByte_ram v ha, rfl, Cells.wf_write hw v ha (addr_lt addr), (hread addr).trans (if_pos rfl),
    fun b hb => (hread b).trans (if_neg hb)⟩

/-! ### Writes to ROM space -/

section
variable {s : State} {a : Word}

/-- The banking-capable cartridge types (20_memory.md R60, decision D20). -/
theorem Image.banking_iff (m : Image) : m.banking = true ↔ m.cartType.toNat ∈ [1, 2, 3] := by
  unfold Image.banking
  simp [BitVec.toNat_eq, or_assoc]

/-- On a banking-capable cartridge a write to ROM space is a controller command (20_memory.md R48 to R52). -/
theorem State.writeByte_banking (v : Byte) (hb : s.image.banking = true) (h : a.toNat ≤ 0x7FFF) :
    s.writeByte a v = s.writeController a v := by
  rw [State.writeByte, if_neg (by unfold Config.ramBase; omega), if_pos hb]

/-- On any other cartridge type it is NotImplemented, whatever the value (20_memory.md R54). -/
theorem State.writeByte_unbanked (v : Byte) (hb : ¬ s.image.banking = true) (h : a.toNat ≤ 0x7FFF) :
    s.writeByte a v = .error { kind := .notImplemented, info := 0x200 + s.image.cartType.toNat } := by
  rw [State.writeByte, if_neg (by unfold Config.ramBase; omega), if_neg hb]

theorem State.writeController_enable (s : State) (v : Byte) (h : a.toNat ≤ 0x1FFF) :
    s.writeController a v = .ok { s with ramEnable := v.extractLsb' 0 4 == 0xA } := by
  rw [State.writeController, if_pos (by omega)]

theorem State.writeController_low (s : State) (v : Byte) (h : 0x2000 ≤ a.toNat) (h' : a.toNat ≤ 0x3FFF) :
    s.writeController a v = .ok { s with romBank := selectLow s.romBank v } := by
  rw [State.writeController, if_neg (by omega), if_pos (by omega)]

theorem State.writeController_high_rom (v : Byte) (h : 0x4000 ≤ a.toNat) (h' : a.toNat ≤ 0x5FFF) (hm : s.mode = .romBanking) :
    s.writeController a v = .ok { s with romBank := selectHigh s.romBank v } := by
  rw [State.writeController, if_neg (by omega), if_neg (by omega), if_pos (by omega), hm]

theorem State.writeController_high_ram (v : Byte) (h : 0x4000 ≤ a.toNat) (h' : a.toNat ≤ 0x5FFF) (hm : s.mode = .ramBanking) :
    s.writeController a v = .ok { s with ramBank := v.extractLsb' 0 2 } := by
  rw [State.writeController, if_neg (by omega), if_neg (by omega), if_pos (by omega), hm]

theorem State.writeController_mode (s : State) (v : Byte) (h : 0x6000 ≤ a.toNat) :
    s.writeController a v =
      if v = 0x00 then .ok { s with mode := .romBanking }
      else if v = 0x01 then .ok { s with mode := .ramBanking }
      else .error { kind := .invalidArgument, info := v.toNat } := by
  rw [State.writeController, if_neg (by omega), if_neg (by omega), if_neg (by omega)]

end

/-! ### The bank fields as numbers -/

/-- A concatenation as a sum, where `BitVec.toNat_append` has a bitwise or. -/
theorem toNat_append_eq_add {m n : Nat} (hi : BitVec m) (lo : BitVec n) : (hi ++ lo).toNat = 2 ^ n * hi.toNat + lo.toNat := by
  rw [BitVec.toNat_append, Nat.shiftLeft_eq, Nat.mul_comm, Nat.two_pow_add_eq_or_of_lt lo.isLt]

/-- The low five bits of the value, 0 read as 1, under bits 6:5 of the bank (20_memory.md R50). -/
theorem selectLow_toNat (bank : BitVec 7) (v : Byte) :
    (selectLow bank v).toNat = 32 * (bank.toNat / 32) + (if v.toNat % 32 = 0 then 1 else v.toNat % 32) := by
  have hhigh : (bank.extractLsb' 5 2).toNat = bank.toNat / 32 := by
    rw [BitVec.extractLsb'_toNat, Nat.shiftRight_eq_div_pow]
    omega
  have hlow : v.extractLsb' 0 5 = 0#5 ↔ v.toNat % 32 = 0 := by simp [BitVec.toNat_eq]
  unfold selectLow
  rw [toNat_append_eq_add, hhigh, apply_ite BitVec.toNat]
  simp [hlow]

/-- The low two bits of the value over bits 4:0 of the bank (20_memory.md R51). -/
theorem selectHigh_toNat (bank : BitVec 7) (v : Byte) :
    (selectHigh bank v).toNat = 32 * (v.toNat % 4) + bank.toNat % 32 := by
  unfold selectHigh
  rw [toNat_append_eq_add]
  simp [BitVec.extractLsb'_toNat]

/-- The RAM-enable key is the low nibble 0xA (20_memory.md R49, decision D17). -/
theorem enableKey_eq (v : Byte) : (v.extractLsb' 0 4 == 0xA) = decide (v.toNat % 16 = 10) := by
  rw [Bool.eq_iff_iff]
  simp [BitVec.toNat_eq]

/-- Settles O9: each command of the controller, with the bank fields as numbers. -/
theorem bankSelectWrites : Obligations.BankSelectWrites := by
  intro s addr v hb
  have hw (h : addr.toNat ≤ 0x7FFF) := State.writeByte_banking v hb h
  refine ⟨fun h h' => ⟨_, (hw (by omega)).trans (s.writeController_low v h h'), rfl, selectLow_toNat ..⟩,
    fun h h' hm => ⟨_, (hw (by omega)).trans (State.writeController_high_rom v h h' hm), rfl, selectHigh_toNat ..⟩,
    fun h h' hm => ⟨_, (hw (by omega)).trans (State.writeController_high_ram v h h' hm), rfl, BitVec.extractLsb'_toNat ..⟩,
    fun h h' => ?_⟩
  rw [hw h', s.writeController_mode v h]
  refine ⟨fun hv => ?_, fun hv => ?_, fun hv => ?_⟩
  · rw [if_pos (BitVec.eq_of_toNat_eq hv)]
  · rw [if_neg (by rintro rfl; cases hv), if_pos (BitVec.eq_of_toNat_eq hv)]
  · have hne (x : Byte) (hx : x.toNat < 2) : v ≠ x := fun e => absurd hv (Nat.not_le.2 (e ▸ hx))
    rw [if_neg (hne 0x00 (by decide)), if_neg (hne 0x01 (by decide))]

/-- Settles O10: types 1, 2 and 3 are the banking-capable ones. -/
theorem ramEnableAndUnbankedWrites : Obligations.RamEnableAndUnbankedWrites := by
  intro s addr v
  rw [← Image.banking_iff]
  refine ⟨fun hb h => ?_, fun hb h => State.writeByte_unbanked v hb h⟩
  rw [State.writeByte_banking v hb (by omega), s.writeController_enable v h, enableKey_eq]

/-! ### What a write leaves of the reads -/

/-- A read below RAM depends on the image and the selected bank alone (20_memory.md R55). -/
theorem State.readByte_rom_congr {s t : State} {b : Word} (hi : t.image = s.image) (hb : t.romBank = s.romBank)
    (h : b.toNat < Config.ramBase) : t.readByte b = s.readByte b := by
  simp only [State.readByte, hi, hb, h, if_true]

/-- Settles O11: a write leaves the image alone, and reads of ROM space see the image and, above bank 0, the selected bank. -/
theorem romReadsByBankAlone : Obligations.RomReadsByBankAlone := by
  intro s t addr v hw
  have hi : t.image = s.image := (State.writeByte_busFrame hw).keeps rfl
  refine ⟨hi, fun b hb => ?_, fun b hb hbank => State.readByte_rom_congr hi hbank (Nat.lt_succ_of_le hb)⟩
  have hb' : b.toNat < Config.bankSize := Nat.lt_succ_of_le hb
  rw [t.readByte_bank0 hb', s.readByte_bank0 hb', hi]

/-! ### `Load` and its validation -/

section
variable (m : Image)

/-- The bytes of the image from an offset on, one by one. -/
theorem Image.matchesAt_iff (bs : List Byte) (off : Nat) :
    m.matchesAt off bs = true ↔ ∀ k, k < bs.length → m.byte (off + k) = bs.getD k 0 := by
  induction bs generalizing off with
  | nil => simp [Image.matchesAt]
  | cons v vs ih =>
    rw [Image.matchesAt, Bool.and_eq_true, beq_iff_eq, ih, List.length_cons, Nat.forall_lt_succ_left']
    simp [Nat.add_right_comm, Nat.add_assoc]

/-- The header checksum is the fold of its rule (20_memory.md R62). -/
theorem Image.checksum_eq_foldl (n off : Nat) (x : Byte) :
    m.checksum off n x = (List.range n).foldl (fun x k => x - m.byte (off + k) - 1) x := by
  induction n generalizing off x with
  | zero => rfl
  | succ n ih =>
    rw [Image.checksum, ih, List.range_succ_eq_map, List.foldl_cons, List.foldl_map]
    simp [Nat.add_right_comm, Nat.add_assoc]

/-- A valid image: its size, the logo and the header checksum (20_memory.md R62, decision D29). -/
theorem Image.valid_iff : m.valid = true ↔ 0x150 ≤ m.size ∧ (∀ k, k < 48 → m.byte (0x104 + k) = logo.getD k 0) ∧
    m.byte 0x14D = (List.range 25).foldl (fun x k => x - m.byte (0x134 + k) - 1) 0 := by
  rw [Image.valid, Bool.and_eq_true, Bool.and_eq_true, decide_eq_true_eq, Image.matchesAt_iff, Image.checksum_eq_foldl,
    beq_iff_eq, and_assoc, eq_comm (b := m.byte 0x14D)]
  rfl

end

section
variable {s : State}

/-- Without a cartridge there is no machine to step (70_reset_and_hazards.md R290). -/
theorem step_of_noCartridge (h : s.hasCartridge = false) : step s = .refused .noCartridge := by
  rw [step, if_neg (by simp [h])]

theorem engineStep_of_noCartridge (h : s.hasCartridge = false) (inj : Option Byte) :
    engineStep inj s = .refused .noCartridge := by
  rw [engineStep, if_neg (by simp [h])]

end

/-- Settles O25: what `Load` answers on a valid image and on another. -/
theorem loadValidation : Obligations.LoadValidation :=
  fun s image ramInit => ⟨image.valid_iff, fun h => ⟨_, load_valid h s ramInit, rfl⟩,
    fun h => ⟨_, load_invalid h s ramInit, rfl, step_of_noCartridge rfl, engineStep_of_noCartridge rfl⟩⟩

/-! ### The host's bus commands -/

section
variable {s t : State} {v : Byte} {r : FaultRecord}

/-! A run by its first byte (20_memory.md R57). -/

theorem State.writeRun_cons_ok {n : Nat} (h : s.writeByte (BitVec.ofNat 16 n) v = .ok t) (vs : List Byte) :
    s.writeRun n (v :: vs) = t.writeRun (n + 1) vs := by
  simp only [State.writeRun, h]

theorem State.writeRun_cons_error {n : Nat} (h : s.writeByte (BitVec.ofNat 16 n) v = .error r) (vs : List Byte) :
    s.writeRun n (v :: vs) = (.error r, s) := by
  simp only [State.writeRun, h]

theorem State.readRun_succ_ok {n k : Nat} {vs : List Byte} (h : s.readByte (BitVec.ofNat 16 n) = .ok v)
    (hs : s.readRun (n + 1) k = .ok vs) : s.readRun n (k + 1) = .ok (v :: vs) := by
  simp only [State.readRun, h, hs]

theorem State.readRun_succ_headError {n : Nat} (h : s.readByte (BitVec.ofNat 16 n) = .error r) (k : Nat) :
    s.readRun n (k + 1) = .error r := by
  simp only [State.readRun, h]

theorem State.readRun_succ_tailError {n k : Nat} (h : s.readByte (BitVec.ofNat 16 n) = .ok v)
    (hs : s.readRun (n + 1) k = .error r) : s.readRun n (k + 1) = .error r := by
  simp only [State.readRun, h, hs]

variable {n : Int} {w : Word}

/-! What the answer of a command inside the space says of the bus (20_memory.md R56, R57). -/

theorem setByte_done_iff (hn : hostAddr n = .ok w) :
    applyCommand (.setByte n v) s = .next (.done, t) ↔ s.writeByte w v = .ok t := by
  cases hw : s.writeByte w v with
  | ok u => simp [setByte_ok hn hw]
  | error q => simp [setByte_error hn hw]

theorem setByte_failed_iff (hn : hostAddr n = .ok w) :
    applyCommand (.setByte n v) s = .next (.failed r, s) ↔ s.writeByte w v = .error r := by
  cases hw : s.writeByte w v with
  | ok u => simp [setByte_ok hn hw]
  | error q => simp [setByte_error hn hw]

theorem getByte_byte_iff (hn : hostAddr n = .ok w) :
    applyCommand (.getByte n) s = .next (.byte v, s) ↔ s.readByte w = .ok v := by
  cases hw : s.readByte w with
  | ok u => simp [getByte_ok hn hw]
  | error q => simp [getByte_error hn hw]

theorem getByte_failed_iff (hn : hostAddr n = .ok w) :
    applyCommand (.getByte n) s = .next (.failed r, s) ↔ s.readByte w = .error r := by
  cases hw : s.readByte w with
  | ok u => simp [getByte_ok hn hw]
  | error q => simp [getByte_error hn hw]

variable {k j : Nat}

theorem bulkRead_bytes_iff {vs : List Byte} (hn : hostRun n k = .ok j) :
    applyCommand (.bulkRead n k) s = .next (.bytes vs, s) ↔ s.readRun j k = .ok vs := by
  rw [bulkRead_of_run hn]
  cases s.readRun j k <;> simp

theorem bulkRead_failed_iff (hn : hostRun n k = .ok j) :
    applyCommand (.bulkRead n k) s = .next (.failed r, s) ↔ s.readRun j k = .error r := by
  rw [bulkRead_of_run hn]
  cases s.readRun j k <;> simp

theorem bulkRead_outside (hn : hostRun n k = .error r) (s : State) :
    applyCommand (.bulkRead n k) s = .next (.failed r, s) := by
  simp only [applyCommand, hn]

theorem bulkWrite_outside {bs : List Byte} (hn : hostRun n bs.length = .error r) (s : State) :
    applyCommand (.bulkWrite n bs) s = .next (.failed r, s) := by
  simp only [applyCommand, hn]

end

/-- A run inside the space that has a first byte: that byte's address and the run after it are inside too (20_memory.md R57). -/
theorem hostRun_succ {n : Int} {k : Nat} (h : 0 ≤ n) (h' : n + ((k + 1 : Nat) : Int) ≤ 0x10000) :
    hostAddr n = .ok (BitVec.ofNat 16 n.toNat) ∧ hostRun n (k + 1) = .ok n.toNat ∧ hostRun (n + 1) k = .ok (n.toNat + 1) := by
  have hnext : (n + 1).toNat = n.toNat + 1 := by omega
  exact ⟨hostAddr_inside h (by omega), hostRun_inside h h', hnext ▸ hostRun_inside (by omega) (by omega)⟩

/-- Settles O27: the single accesses by the address check, the runs by the run check and the equations of a run. -/
theorem hostAccess : Obligations.HostAccess := by
  intro s
  refine ⟨fun w => ?single, fun a v h => ?outside, fun _ _ => rfl, fun a bs h => ?runOutside, fun a h h' => ?empty,
    fun a v vs h h' => ?write, fun a n h h' => ?read, fun a bs h h' hram => ?readBack⟩
  case single =>
    have hw := hostAddr_toNat w
    exact ⟨fun _ => getByte_ok hw, fun _ => getByte_error hw, fun _ _ => setByte_ok hw, fun _ _ => setByte_error hw⟩
  case outside =>
    have ha := hostAddr_outside h
    exact ⟨_, getByte_outside ha s, setByte_outside ha v s⟩
  case runOutside =>
    obtain ⟨info, ha⟩ := hostRun_outside h
    exact ⟨info, bulkWrite_outside ha s, bulkRead_outside ha s⟩
  case empty =>
    have ha : hostRun a 0 = .ok a.toNat := hostRun_inside h (by omega)
    exact ⟨bulkWrite_of_run (bs := []) ha s, (bulkRead_bytes_iff ha).2 rfl⟩
  case write =>
    obtain ⟨ha, hrun, hrest⟩ := hostRun_succ (k := vs.length) h h'
    refine ⟨fun t ht => ?_, fun r hr => ?_⟩
    · rw [bulkWrite_of_run hrun, State.writeRun_cons_ok ((setByte_done_iff ha).1 ht), bulkWrite_of_run hrest]
    · rw [bulkWrite_of_run hrun, State.writeRun_cons_error ((setByte_failed_iff ha).1 hr)]
      rfl
  case read =>
    obtain ⟨ha, hrun, hrest⟩ := hostRun_succ h h'
    refine ⟨fun v vs hv hvs => ?_, fun v r hv hr => ?_, fun r hr => ?_⟩
    · exact (bulkRead_bytes_iff hrun).2
        (State.readRun_succ_ok ((getByte_byte_iff ha).1 hv) ((bulkRead_bytes_iff hrest).1 hvs))
    · exact (bulkRead_failed_iff hrun).2
        (State.readRun_succ_tailError ((getByte_byte_iff ha).1 hv) ((bulkRead_failed_iff hrest).1 hr))
    · exact (bulkRead_failed_iff hrun).2 (State.readRun_succ_headError ((getByte_failed_iff ha).1 hr) n)
  case readBack =>
    have hrun : hostRun a bs.length = .ok a.toNat := hostRun_inside (by omega) h'
    obtain ⟨t, ht, -, hback, -⟩ := State.writeRun_ram bs s a.toNat (by unfold Config.ramBase; omega)
      (by unfold Config.spaceSize; omega) hram
    exact ⟨t, by rw [bulkWrite_of_run hrun, ht]; rfl, (bulkRead_bytes_iff hrun).2 hback⟩

/-! ### What an instruction leaves of memory -/

section
variable {f : Form} {s u w : State} {a : Word}

/-- A single write of a form leaves every address that the form does not store to reading as before, if the same bank, any one,
is selected in both states (20_memory.md R48, R55). -/
theorem Update.readByte_at_bank (h : Update f s u w) (ha : a ∉ formStores f s) (bank : BitVec 7) :
    ({ w with romBank := bank } : State).readByte a = ({ u with romBank := bank } : State).readByte a := by
  cases h with
  | reg => apply State.readByte_congr <;> simp
  | @store _ b v hb hw =>
    obtain ⟨hram, rfl⟩ | ⟨-, -, hw⟩ := State.writeByte_ok hw
    · have hne : a ≠ b := fun e => ha (e ▸ hb)
      exact State.readByte_writeByte (State.writeByte_ram { u with romBank := bank } v hram) hne
    · rw [hw]; exact State.readByte_congr rfl rfl rfl a
  | _ => exact State.readByte_congr rfl rfl rfl a

/-- A form whose stores all lie in RAM leaves the bank controller alone (20_memory.md R48). -/
theorem Update.controller_eq (h : Update f s u w) (hs : ∀ a ∈ formStores f s, 0x8000 ≤ a.toNat) :
    w.controllerView = u.controllerView := by
  cases h with
  | reg => simp [State.controllerView]
  | store ha hw =>
    rw [State.writeByte_ram _ _ (hs _ ha)] at hw
    obtain rfl := Except.ok.inj hw
    rfl
  | _ => rfl

end

/-- Settles O60: an instruction is a sequence of single writes, and each of them keeps the reads and the controller. -/
theorem memoryFrame : Obligations.MemoryFrame := by
  intro i s t h
  have hu := exec_updates h
  have hread (a : Word) (ha : a ∉ formStores i.form s) : t.readByte a = ({ s with romBank := t.romBank } : State).readByte a :=
    hu.keeps (π := fun u => ({ u with romBank := t.romBank } : State).readByte a) (·.readByte_at_bank ha t.romBank)
  have hcontroller (hs : ∀ a ∈ formStores i.form s, 0x8000 ≤ a.toNat) :
      t.romBank = s.romBank ∧ t.ramBank = s.ramBank ∧ t.mode = s.mode ∧ t.ramEnable = s.ramEnable := by
    obtain ⟨hen, hrom, hram, hmode⟩ := ControllerView.mk.inj (hu.keeps (π := State.controllerView) (·.controller_eq hs))
    exact ⟨hrom, hram, hmode, hen⟩
  refine ⟨hread, hcontroller, fun hnone a => ?_⟩
  obtain ⟨hbank, -⟩ := hcontroller (by simp [hnone])
  rw [hread a (by simp [hnone]), hbank]

end Sys2Proof.Machine

/-! ## The encoding (30_encoding.md) -/

namespace Sys2Proof

/-! ### The decoder by the entry of the opcode -/

section
variable {op : Byte} {d : Desc}

/-- An entry with a handler applies it to the parameter bytes (30_encoding.md R80). -/
theorem decode_ins (h : primary op = .ins d) (ps : List Byte) : decode (op :: ps) = d.handler.apply ps := by
  simp only [decode, h]

/-- The prefix byte hands the next byte to the secondary table (30_encoding.md R82). -/
theorem decode_bare (h : primary op = .bare) (b : Byte) (ps : List Byte) :
    decode (op :: b :: ps) = (secondary b).handler.apply ps := by
  simp only [decode, h]

/-- An opcode without a handler decodes without parameter bytes (30_encoding.md R89). -/
theorem decode_hole {i : Instr} (h : primary op = .hole i) (ps : List Byte) : decode (op :: ps) = .ok (i, ps) := by
  simp only [decode, h]

/-- An opcode that takes a 16-bit immediate reads it back, low byte first (30_encoding.md R80, R83). -/
theorem decode_opWord {mk : Word → Instr} (h : primary op = .ins d) (hd : d.handler = .withWord mk) (nn : Word)
    (rest : List Byte) : decode (opWord op nn ++ rest) = .ok (mk nn, rest) := by
  calc decode (opWord op nn ++ rest)
      = d.handler.apply (loByte nn :: hiByte nn :: rest) := decode_ins h _
    _ = .ok (mk nn, rest) := by rw [hd, Handler.apply, joinBytes_hiByte_loByte]

end

/-! ### From an instruction to its bytes and back -/

/-- Settles O2: by the instruction, whose opcode selects its entry of the grid; only a 16-bit immediate is put together again. -/
theorem decodeOfEncode : Obligations.DecodeOfEncode := by
  intro i rest hi
  cases i
  case prefixCb => cases hi
  case ldBcD16 nn | ldDeD16 nn | ldHlD16 nn | ldSpD16 nn | ldAtA16Sp nn | ldAtA16A nn | ldAAtA16 nn
      | jpA16 nn | jpNzA16 nn | jpZA16 nn | jpNcA16 nn | jpCA16 nn
      | callA16 nn | callNzA16 nn | callZA16 nn | callNcA16 nn | callCA16 nn =>
    exact decode_opWord rfl rfl nn rest
  all_goals rfl

/-- Well-formed instructions of one operand form are one instruction, since their bytes are the same. -/
theorem eq_of_form_eq {i j : Instr} (hi : i.WellFormed = true) (hj : j.WellFormed = true) (h : i.form = j.form) : i = j := by
  have hij : decode (encode i ++ []) = decode (encode j ++ []) := by rw [encode, encode, h]
  rw [decodeOfEncode i [] hi, decodeOfEncode j [] hj] at hij
  exact congrArg Prod.fst (Except.ok.inj hij)

/-! ### From bytes to an instruction and back -/

/-- An entry without a handler (30_encoding.md R89). -/
def Entry.isHole : Entry → Bool
  | .hole _ => true
  | _ => false

/-- The holes of the primary grid are the eleven opcodes of 30_encoding.md R89. -/
theorem primary_isHole_iff (op : Byte) : (primary op).isHole = true ↔
    op ∈ ([0xD3, 0xDB, 0xDD, 0xE3, 0xE4, 0xEB, 0xEC, 0xED, 0xF4, 0xFC, 0xFD] : List Byte) := by
  revert op
  decide

/-- With a handler is well-formed and no hole (30_encoding.md R82, R89). -/
theorem hasHandler_iff (i : Instr) : i.HasHandler = true ↔ i.WellFormed = true ∧ i.isHole = false := by
  simp [Instr.HasHandler, Instr.WellFormed]

/-- `i` is what the decoder reads from opcode `op` and the bytes `ps` after it, leaving `tail`. -/
structure Reads (op : Byte) (ps : List Byte) (i : Instr) (tail : List Byte) : Prop where
  decode_eq : decode (op :: ps) = .ok (i, tail)
  bytes : op :: ps = encode i ++ tail
  wellFormed : ps ≠ [] → i.WellFormed = true
  isHole : i.isHole = (primary op).isHole

theorem Reads.of_hasHandler {op : Byte} {ps tail : List Byte} {i : Instr} (hd : decode (op :: ps) = .ok (i, tail))
    (hb : op :: ps = encode i ++ tail) (hp : (primary op).isHole = false) (hi : i.HasHandler = true) : Reads op ps i tail :=
  have ⟨hw, hh⟩ := (hasHandler_iff i).1 hi
  ⟨hd, hb, fun _ => hw, hh.trans hp.symm⟩

/-- The decoder reads an instruction, unless the bytes end within its immediate (30_encoding.md R80 to R82, R89). -/
theorem reads_or_truncated (op : Byte) (ps : List Byte) :
    (∃ i tail, Reads op ps i tail) ∨ (ps.length < 2 ∧ decode (op :: ps) = .error .truncated) := by
  have hs := primary_spec op
  generalize hp : primary op = entry at hs
  cases hs with
  | @plain d i hd hb _ _ _ hi =>
    exact .inl ⟨i, ps, .of_hasHandler (by rw [decode_ins hp, hd, Handler.apply]) (by rw [hb]; rfl) (by rw [hp]; rfl) hi⟩
  | @withByte d mk hd hb _ _ _ hi =>
    rcases ps with _ | ⟨p, ps⟩
    · exact .inr ⟨by simp, by rw [decode_ins hp, hd, Handler.apply]⟩
    · exact .inl ⟨mk p, ps,
        .of_hasHandler (by rw [decode_ins hp, hd, Handler.apply]) (by rw [hb]; rfl) (by rw [hp]; rfl) (hi p)⟩
  | @withWord d mk hd hb _ _ _ hi =>
    rcases ps with _ | ⟨p0, _ | ⟨p1, ps⟩⟩
    · exact .inr ⟨by simp, by rw [decode_ins hp, hd, Handler.apply]⟩
    · exact .inr ⟨by simp, by rw [decode_ins hp, hd, Handler.apply]⟩
    · exact .inl ⟨mk (joinBytes p1 p0), ps,
        .of_hasHandler (by rw [decode_ins hp, hd, Handler.apply])
          (by rw [hb, loByte_joinBytes, hiByte_joinBytes]; rfl) (by rw [hp]; rfl) (hi _)⟩
  | bare e =>
    rcases ps with _ | ⟨b, ps⟩
    · exact .inl ⟨.prefixCb, [], by simp only [decode, hp], by rw [e]; rfl, nofun, by rw [hp]; rfl⟩
    · obtain ⟨i, hi⟩ := secondary_spec b
      exact .inl ⟨i, ps, .of_hasHandler (by rw [decode_bare hp, hi.handler, Handler.apply]) (by rw [hi.bytes, e]; rfl)
        (by rw [hp]; rfl) hi.hasHandler⟩
  | @hole i hb hh hw => exact .inl ⟨i, ps, decode_hole hp ps, by rw [hb]; rfl, fun _ => hw, by rw [hp]; exact hh⟩

/-- Settles O3: the bytes that the decoder reads, by the entry of the first of them. -/
theorem encodeOfDecode : Obligations.EncodeOfDecode := by
  intro bs rest i h
  rcases bs with _ | ⟨op, ps⟩
  · cases h
  obtain ⟨j, tail, hj⟩ | ⟨-, he⟩ := reads_or_truncated op ps
  · rw [hj.decode_eq] at h
    cases h
    exact hj.bytes
  · rw [he] at h
    cases h

/-- Settles O4: two parameter bytes are enough for every opcode, and the holes are those of the grid. -/
theorem everyByteDecodes : Obligations.EveryByteDecodes := by
  intro op p0 p1 rest
  obtain ⟨i, tail, hi⟩ | ⟨hlen, -⟩ := reads_or_truncated op (p0 :: p1 :: rest)
  · exact ⟨i, tail, hi.decode_eq, hi.wellFormed nofun, hi.isHole ▸ primary_isHole_iff op⟩
  · simp only [List.length_cons] at hlen
    omega

/-- Settles O1: each of the ten words runs through the decoder. -/
theorem decodedWords : Obligations.DecodedWords := ⟨rfl, rfl, rfl, rfl, rfl, rfl, rfl, rfl, rfl, rfl⟩

end Sys2Proof

namespace Sys2Proof.Machine

/-! ### Declared counts -/

/-- What the grids declare: the number of the instruction's bytes and the cycle count of its form (30_encoding.md R86). -/
theorem counts_eq (i : Instr) : counts i = (formCycles i.form).map fun n => ((encode i).length, n) := by
  cases i <;> rfl

/-- Only the bare prefix and the holes have no cycle count (30_encoding.md R82, R89). -/
theorem formCycles_isSome (i : Instr) : (formCycles i.form).isSome = i.HasHandler := by
  unfold Instr.HasHandler Instr.isBarePrefix Instr.isHole
  cases i.form <;> rfl

/-- No instruction takes more than six cycle units (70_reset_and_hazards.md R312). -/
theorem formCycles_le_six {f : Form} {n : Nat} (h : formCycles f = some n) : n ≤ 6 := by
  cases f <;> cases h <;> exact Nat.le_of_ble_eq_true rfl

/-- Only `STOP` has more bytes than cycle units (40_engine_and_alu_primitives.md R104). -/
theorem length_encode_le_formCycles {f : Form} {n : Nat} (h : formCycles f = some n) (hf : ∀ b, f ≠ .stop b) :
    f.encode.length ≤ n := by
  cases f
  case stop b => exact absurd rfl (hf b)
  all_goals cases h <;> exact Nat.le_of_ble_eq_true rfl

/-- Settles O5: the grids declare the cycle count of the form, and the bounds hold form by form. -/
theorem declaredCounts : Obligations.DeclaredCounts := by
  refine fun i => ⟨fun hi => ?_, fun hi => ?_⟩
  · obtain ⟨n, hn⟩ := Option.isSome_iff_exists.1 ((formCycles_isSome i).trans hi)
    have hform (hs : ∀ b, i ≠ .stop b) (b : Byte) : i.form ≠ .stop b := fun e =>
      hs b (eq_of_form_eq ((hasHandler_iff i).1 hi).1 rfl e)
    exact ⟨n, hn, by rw [counts_eq, hn]; rfl, formCycles_le_six hn, fun hs => length_encode_le_formCycles hn (hform hs)⟩
  · rw [counts_eq, Option.map_eq_none_iff, ← Option.isNone_iff_eq_none, ← Option.not_isSome, formCycles_isSome, hi]
    rfl

end Sys2Proof.Machine

/-! ## The step protocol, the instruction-level step and the queries (40_engine_and_alu_primitives.md) -/

namespace Sys2Proof.Machine

/-! ### One host `Step`, branch by branch -/

/-- A cartridge is loaded and no fault is latched: a `Step` is neither refused nor stuck (70_reset_and_hazards.md R290,
60_exceptions.md R263). A fetch and a new record keep it. -/
def State.Live (s : State) : Prop := s.hasCartridge = true ∧ s.fault = none

/-- The record that the dispatch of an opcode byte begins (40_engine_and_alu_primitives.md R103). -/
def InstrRecord.first (op : Byte) : InstrRecord := { opcode := op, params := [], fetch := 1, cycle := 1, complete := false }

/-- The record of the prefix byte with its secondary opcode taken (40_engine_and_alu_primitives.md R103). -/
def InstrRecord.prefixed (r : InstrRecord) (b : Byte) : InstrRecord := { r with params := [b], fetch := 2, cycle := 2 }

/-- A cycle unit, unless the counter is at its budget (40_engine_and_alu_primitives.md R104). -/
def InstrRecord.tick (r : InstrRecord) (d : Desc) : InstrRecord :=
  { r with cycle := if r.cycle < d.cycles then r.cycle + 1 else r.cycle }

/-- A cycle unit and a parameter byte (40_engine_and_alu_primitives.md R104). -/
def InstrRecord.take (r : InstrRecord) (d : Desc) (b : Byte) : InstrRecord :=
  { r.tick d with params := r.params ++ [b], fetch := r.fetch + 1 }

/-- The state with a record as its current one. -/
def State.setCur (s : State) (r : InstrRecord) : State := { s with cur := some r }

/-- Inside a `Step`: fetch a byte and go on with it, or raise the fault (40_engine_and_alu_primitives.md R101, R111). -/
def State.fetchThen (s : State) (k : Byte → State → EngineResult) : EngineResult :=
  match s.fetchByte with
  | .ok (b, s1) => k b s1
  | .error q => s.faulted q

section
variable {s t : State} {r : InstrRecord} {d : Desc}

theorem State.breakHit_iff : s.breakHit = true ↔ s.bpEn = true ∧ s.pc = s.bpAddr := by
  simp [State.breakHit]

theorem State.ready_iff : s.ready = true ↔ s.Live ∧ s.inFlight = none ∧ s.breakHit = false := by
  simp [State.ready, State.Live, and_assoc]

/-- A current record that is not complete is in flight (10_state.md R23). -/
theorem State.inFlight_of_cur (hc : s.cur = some r) (hn : r.complete = false) : s.inFlight = some r := by
  simp [State.inFlight, hc, hn]

theorem engineStep_of_inFlight (hs : s.Live) (hr : s.inFlight = some r) (inj : Option Byte) :
    engineStep inj s = continueStep r s := by
  simp only [engineStep, hs.1, hs.2, hr, if_true]

theorem engineStep_of_break (hs : s.Live) (hi : s.inFlight = none) (hb : s.breakHit = true) (inj : Option Byte) :
    engineStep inj s = .next (.brk, s) := by
  simp only [engineStep, hs.1, hs.2, hi, hb, if_true]

theorem engineStep_of_ready (h : s.ready = true) (inj : Option Byte) : engineStep inj s = dispatchStep inj s := by
  obtain ⟨⟨hcart, hfault⟩, hi, hb⟩ := State.ready_iff.1 h
  simp [engineStep, hcart, hfault, hi, hb]

theorem step_of_ready (h : s.ready = true) : step s = s.withFetch runFetched := by
  obtain ⟨⟨hcart, hfault⟩, hi, hb⟩ := State.ready_iff.1 h
  simp [step, hcart, hfault, hi, hb, runNext]

theorem step_of_break (hs : s.Live) (hi : s.inFlight = none) (hb : s.breakHit = true) : step s = .next s := by
  simp only [step, hs.1, hs.2, hi, hb, if_true]

theorem dispatchStep_none (s : State) : dispatchStep none s = s.fetchThen dispatchOpcode := rfl

/-- A record without a descriptor is at no budget. -/
theorem settleRecord_of_noDesc (h : r.desc = none) (s : State) : settleRecord r s = .next (.fetching, s) := by
  simp [settleRecord, InstrRecord.atBudget, h]

theorem dispatchOpcode_hole {op : Byte} {i : Instr} (h : primary op = .hole i) (ht : exec i s = .next t) :
    dispatchOpcode op s = .next (.faulted, t) := by
  simp only [dispatchOpcode, h, ht]

/-- An opcode with a handler and the prefix byte both begin a record (40_engine_and_alu_primitives.md R103); that of the prefix byte
alone is at no budget. -/
theorem dispatchOpcode_not_hole {op : Byte} (h : (primary op).isHole = false) (s : State) :
    dispatchOpcode op s = settleRecord (.first op) (s.setCur (.first op)) := by
  cases hp : primary op with
  | ins d => simp only [dispatchOpcode, hp]; rfl
  | bare =>
    obtain rfl := eq_prefixByte_of_bare hp
    rw [settleRecord_of_noDesc rfl]
    rfl
  | hole i => rw [hp] at h; cases h

theorem continueStep_prefix (hd : r.desc = none) (s : State) :
    continueStep r s = s.fetchThen fun b s1 => settleRecord (r.prefixed b) (s1.setCur (r.prefixed b)) := by
  unfold continueStep State.fetchThen
  rw [hd]
  cases s.fetchByte <;> rfl

theorem continueStep_fetch (hd : r.desc = some d) (hf : r.fetch < d.length) (s : State) :
    continueStep r s = s.fetchThen fun b s1 => settleRecord (r.take d b) (s1.setCur (r.take d b)) := by
  unfold continueStep State.fetchThen
  simp only [hd, hf, if_true]
  cases s.fetchByte <;> rfl

theorem continueStep_idle (hd : r.desc = some d) (hf : ¬ r.fetch < d.length) (s : State) :
    continueStep r s = settleRecord (r.tick d) (s.setCur (r.tick d)) := by
  simp only [continueStep, hd, hf, if_false]
  rfl

end

/-! ### What one host `Step` can end in -/

/-- The record and `PC` that a `Step` has before it tests the budgets (40_engine_and_alu_primitives.md R103, R104, R107): an injected or
a fetched opcode with nothing in flight, else the secondary opcode, a parameter byte, or no byte. -/
inductive Advance (s : State) : Option Byte → InstrRecord → Word → Prop where
  | injected {op : Byte} : s.inFlight = none → Advance s (some op) (.first op) s.pc
  | fetched {op : Byte} : s.inFlight = none → Advance s none (.first op) (s.pc + 1)
  | prefixed {inj : Option Byte} {r : InstrRecord} (b : Byte) : s.inFlight = some r → r.desc = none →
      Advance s inj (r.prefixed b) (s.pc + 1)
  | param {inj : Option Byte} {r : InstrRecord} {d : Desc} (b : Byte) : s.inFlight = some r → r.desc = some d → r.fetch < d.length →
      Advance s inj (r.take d b) (s.pc + 1)
  | idle {inj : Option Byte} {r : InstrRecord} {d : Desc} : s.inFlight = some r → r.desc = some d → ¬ r.fetch < d.length →
      Advance s inj (r.tick d) s.pc

/-- The results a `Step` can return, each with the state it leaves (40_engine_and_alu_primitives.md R102, R105, R110, R111). -/
inductive EngineLeaves (inj : Option Byte) (s : State) : StepResult → State → Prop where
  | brk : s.fault = none → s.inFlight = none → s.breakHit = true → EngineLeaves inj s .brk s
  | faulted (t : State) : EngineLeaves inj s .faulted t
  | fetching {r : InstrRecord} {pc : Word} : Advance s inj r pc →
      EngineLeaves inj s .fetching { s with pc := pc, cur := some r }
  | complete {r : InstrRecord} {pc : Word} {i : Instr} {rest : List Byte} {t : State} : Advance s inj r pc → r.atBudget = true →
      decode r.bytes = .ok (i, rest) → exec i { s with pc := pc, cur := some r } = .next t → t.fault = none →
      EngineLeaves inj s .complete t.finish

section
variable {inj : Option Byte} {s t : State} {r : InstrRecord} {d : Desc} {pc : Word} {res : StepResult}

theorem Advance.leaves (ha : Advance s inj r pc)
    (h : settleRecord r { s with pc := pc, cur := some r } = .next (res, t)) : EngineLeaves inj s res t := by
  unfold settleRecord at h
  split at h
  case isFalse => cases h; exact .fetching ha
  case isTrue hb =>
    unfold executeRecord at h
    split at h
    case h_1 => cases h
    case h_2 i rest hdec =>
      obtain ⟨u, hu⟩ := exec_total i { s with pc := pc, cur := some r }
      simp only [hu] at h
      split at h
      case h_1 => cases h; exact .faulted _
      case h_2 hf => cases h; exact .complete ha hb hdec hu hf

theorem EngineLeaves.of_fetchThen {k : Byte → State → EngineResult} (h : s.fetchThen k = .next (res, t))
    (hk : ∀ b, k b { s with pc := s.pc + 1 } = .next (res, t) → EngineLeaves inj s res t) : EngineLeaves inj s res t := by
  unfold State.fetchThen at h
  split at h
  case h_1 b u hb => exact hk b (State.fetchByte_ok hb ▸ h)
  case h_2 => cases h; exact .faulted _

theorem EngineLeaves.of_dispatchOpcode {op : Byte} (ha : Advance s inj (.first op) pc)
    (h : dispatchOpcode op { s with pc := pc } = .next (res, t)) : EngineLeaves inj s res t := by
  cases hp : primary op with
  | hole i =>
    obtain ⟨u, hu⟩ := exec_total i { s with pc := pc }
    rw [dispatchOpcode_hole hp hu] at h
    cases h
    exact .faulted _
  | ins | bare =>
    rw [dispatchOpcode_not_hole (by rw [hp]; rfl)] at h
    exact ha.leaves h

theorem EngineLeaves.of_dispatchStep (hi : s.inFlight = none) (h : dispatchStep inj s = .next (res, t)) :
    EngineLeaves inj s res t := by
  cases inj with
  | some op => exact .of_dispatchOpcode (.injected hi) h
  | none => exact .of_fetchThen h fun op hop => .of_dispatchOpcode (.fetched hi) hop

theorem EngineLeaves.of_continueStep (hr : s.inFlight = some r) (h : continueStep r s = .next (res, t)) :
    EngineLeaves inj s res t := by
  cases hd : r.desc with
  | none =>
    rw [continueStep_prefix hd] at h
    exact .of_fetchThen h fun b hb => (Advance.prefixed b hr hd).leaves hb
  | some d =>
    by_cases hf : r.fetch < d.length
    · rw [continueStep_fetch hd hf] at h
      exact .of_fetchThen h fun b hb => (Advance.param b hr hd hf).leaves hb
    · rw [continueStep_idle hd hf] at h
      exact (Advance.idle hr hd hf).leaves h

/-- A `Step` that answers a next state ends in one of the four results. -/
theorem engineStep_leaves (h : engineStep inj s = .next (res, t)) : EngineLeaves inj s res t := by
  unfold engineStep at h
  split at h
  case isFalse => cases h
  case isTrue =>
    split at h
    case h_1 => cases h
    case h_2 hfault =>
      split at h
      case h_1 r hr => exact .of_continueStep hr h
      case h_2 hi =>
        split at h
        case isTrue hb => cases h; exact .brk hfault hi hb
        case isFalse => exact .of_dispatchStep hi h

theorem Advance.not_complete (ha : Advance s inj r pc) : r.complete = false := by
  cases ha with
  | injected | fetched => rfl
  | prefixed _ hr | param _ hr | idle hr => exact (State.inFlight_some hr).2

theorem Advance.pc_eq (ha : Advance s inj r pc) : pc = s.pc ∨ pc = s.pc + 1 := by
  cases ha with
  | injected | idle => exact .inl rfl
  | fetched | prefixed | param => exact .inr rfl

theorem InstrRecord.Counted.of_desc {d' : Desc} (h : r.Counted d') (hd : r.desc = some d) : r.Counted d :=
  Option.some.inj (h.desc.symm.trans hd) ▸ h

/-- From a state with the invariant, the counters of a record whose descriptor is known have advanced together
(40_engine_and_alu_primitives.md R103, R104). -/
theorem Advance.counted (ha : Advance s inj r pc) (h : s.Inv) (hd : r.desc = some d) : r.Counted d := by
  have hcur {r0 : InstrRecord} (hr : s.inFlight = some r0) : curOk s.fault r0 = true := h.cur r0 (State.inFlight_some hr).1
  have hfirst {op : Byte} (hd : (InstrRecord.first op).desc = some d) : (InstrRecord.first op).Counted d := by
    cases hp : primary op with
    | ins d' => exact (counted_first hp).of_desc hd
    | bare | hole => simp [InstrRecord.desc, InstrRecord.bytes, InstrRecord.first, descOf, hp] at hd
  cases ha with
  | injected | fetched => exact hfirst hd
  | prefixed b hr hnone =>
    obtain rfl := (curOk_iff_of_noDesc hnone).1 (hcur hr)
    exact (counted_prefixed primary_prefixByte b).of_desc hd
  | param b hr hd0 hf => exact (((curOk_iff hd0).1 (hcur hr)).1.fetchNext hf b).of_desc hd
  | idle hr hd0 hf => exact (((curOk_iff hd0).1 (hcur hr)).1.cycleNext hf).of_desc hd

/-- A counted record of the prefix byte at its fetch budget holds the secondary opcode (30_encoding.md R82, R86). -/
theorem InstrRecord.Counted.secondary_opcode (h : r.Counted d) (hf : r.fetch = d.length) (hop : r.opcode = prefixByte) :
    ∃ b, r.params = [b] ∧ d = secondary b := by
  have hdesc : descOf (prefixByte :: r.params) = some d := hop ▸ h.desc
  have hlen := h.params
  cases hps : r.params with
  | nil => rw [hps] at hdesc; cases hdesc
  | cons b ps =>
    rw [hps, descOf_bare primary_prefixByte] at hdesc
    obtain rfl := Option.some.inj hdesc
    obtain ⟨i, hi⟩ := secondary_spec b
    rw [hps, List.length_cons, hf, hi.length] at hlen
    exact ⟨b, by rw [List.length_eq_zero_iff.1 (by omega : ps.length = 0)], rfl⟩

end

/-- Settles O17: a `Step` at a breakpoint is the Break branch, and no other branch returns Break. -/
theorem breakpointHolds : Obligations.BreakpointHolds := by
  refine ⟨fun s hcart hfault hi hen haddr => ?_, fun inj s t h => ?_⟩
  · have hb := State.breakHit_iff.2 ⟨hen, haddr⟩
    exact ⟨step_of_break ⟨hcart, hfault⟩ hi hb, engineStep_of_break ⟨hcart, hfault⟩ hi hb⟩
  · cases engineStep_leaves h with
    | brk hfault hi hb => exact ⟨rfl, hi, hfault, State.breakHit_iff.1 hb⟩

/-- Settles O20: the record that completes is counted and at its budgets, and its instruction leaves it in `cur`. -/
theorem countersGuarantee : Obligations.CountersGuarantee := by
  intro inj s t hinv h
  cases engineStep_leaves h with
  | @complete r pc i rest u ha hb hdec hx hf =>
    obtain ⟨d, hd⟩ : ∃ d, r.desc = some d := by
      cases hd : r.desc with
      | none => simp [InstrRecord.atBudget, hd] at hb
      | some d => exact ⟨d, rfl⟩
    have hc := ha.counted hinv hd
    obtain ⟨hfetch, hcycle⟩ := (InstrRecord.atBudget_iff hd).1 hb
    have hcur : u.cur = some r :=
      (exec_updates hx).keeps (π := State.cur) (·.cur_eq (not_formNoHandler (hasHandler_of_decode hd hdec)))
    rw [State.finish_of_ok hf hcur]
    exact ⟨{ r with complete := true }, d, rfl, rfl, hd, rfl, hfetch, hcycle, hc.params.trans hfetch,
      hc.secondary_opcode hfetch⟩

/-- Settles O21: a `Step` that returns Fetching has advanced the record and `PC` and nothing else. -/
theorem nothingBeforeCompletion : Obligations.NothingBeforeCompletion := by
  intro inj s t h
  cases engineStep_leaves h with
  | @fetching r pc ha =>
    refine ⟨r, rfl, ha.not_complete, rfl, ha.pc_eq, fun r0 d hr0 hd0 => ?_⟩
    cases ha with
    | injected hi | fetched hi => cases hi.symm.trans hr0
    | prefixed b hr hnone =>
      cases hr.symm.trans hr0
      cases hnone.symm.trans hd0
    | param b hr hd hf =>
      cases hr.symm.trans hr0
      cases hd.symm.trans hd0
      exact ⟨rfl, (if_pos hf).symm, rfl, (if_pos hf).symm⟩
    | idle hr hd hf =>
      cases hr.symm.trans hr0
      cases hd.symm.trans hd0
      exact ⟨rfl, (if_neg hf).symm, rfl, (if_neg hf).symm⟩

/-- Settles O22: `Dispatch` alone reads the injected byte, and it is the fetch alone that moves `PC`. -/
theorem injectedOpcode : Obligations.InjectedOpcode := by
  refine ⟨fun op s r hr => ?_, fun op s hready hen hop => ?_, fun op s t hready h => ?_⟩
  · simp only [engineStep, hr]
  · have hready' : ({ s with pc := s.pc + 1 } : State).ready = true := by
      obtain ⟨hs, hi, -⟩ := State.ready_iff.1 hready
      exact State.ready_iff.2 ⟨hs, hi, by simp [State.breakHit, hen]⟩
    rw [engineStep_of_ready hready, engineStep_of_ready hready']
    simp only [dispatchStep, State.fetchByte, hop]
  · obtain ⟨-, hi, -⟩ := State.ready_iff.1 hready
    cases engineStep_leaves h with
    | fetching ha =>
      cases ha with
      | injected => rfl
      | prefixed _ hr | param _ hr | idle hr => cases hi.symm.trans hr

/-! ### A run of host `Step`s -/

/-- What a run makes of the outcome of its first `Step`: up to `n` more `Step`s while it is Fetching, else the state left. -/
def resume (n : Nat) (x : EngineResult) : Result :=
  match x with
  | .next (.fetching, s) => engineRun n s
  | .next (_, s) => .next s
  | .fault q => .fault q
  | .refused q => .refused q

theorem engineRun_succ (n : Nat) (s : State) : engineRun (n + 1) s = resume n (engineStep none s) := rfl

section
variable {s : State} {r : InstrRecord} {i : Instr} {d : Desc}

theorem resume_fetchThen (n : Nat) (s : State) (k : Byte → State → EngineResult) :
    resume n (s.fetchThen k) = s.withFetch fun b s1 => resume n (k b s1) := by
  unfold State.fetchThen State.withFetch
  cases s.fetchByte <;> rfl

/-- Continuations of a fetch that agree on the states a fetch can leave are one continuation. -/
theorem State.withFetch_congr {k k' : Byte → State → Result} (hs : s.Live) (h : ∀ b s1, s1.Live → k b s1 = k' b s1) :
    s.withFetch k = s.withFetch k' := by
  unfold State.withFetch
  split
  case h_1 b t hb =>
    have ht : t.Live := State.fetchByte_ok hb ▸ hs
    exact h b t ht
  case h_2 => rfl

/-- A run continues a record that is not at its budgets (40_engine_and_alu_primitives.md R102). -/
theorem resume_settleRecord_continue (hs : s.Live) (hn : r.complete = false) (hb : r.atBudget = false) (n : Nat) :
    resume (n + 1) (settleRecord r (s.setCur r)) = resume n (continueStep r (s.setCur r)) := by
  have hlive : (s.setCur r).Live := hs
  calc resume (n + 1) (settleRecord r (s.setCur r))
      = engineRun (n + 1) (s.setCur r) := by rw [settleRecord, hb]; rfl
    _ = resume n (continueStep r (s.setCur r)) := by
        rw [engineRun_succ, engineStep_of_inFlight hlive (State.inFlight_of_cur rfl hn)]

/-- The last `Step` of an instruction applies it and records its completion (40_engine_and_alu_primitives.md R105). -/
theorem resume_settleRecord_atBudget (hd : r.desc = some d) (hn : r.complete = false) (hdec : decode r.bytes = .ok (i, []))
    (hb : r.atBudget = true) (n : Nat) (s : State) :
    resume n (settleRecord r (s.setCur r)) = runInstr i d r.opcode r.params s := by
  obtain ⟨hf, hc⟩ := (InstrRecord.atBudget_iff hd).1 hb
  have hrecord : s.record r.opcode r.params d.length d.cycles = s.setCur r := by
    rw [State.record, ← hf, ← hc, ← hn]; rfl
  obtain ⟨t, ht⟩ := exec_total i (s.setCur r)
  simp only [settleRecord, hb, if_true, executeRecord, hdec, runInstr, hrecord, ht]
  split
  case h_1 q hf => rw [State.finish_of_fault hf]; rfl
  case h_2 => rfl

theorem InstrRecord.tick_cycle (h : r.cycle ≤ d.cycles) : (r.tick d).cycle = min (r.cycle + 1) d.cycles := by
  unfold InstrRecord.tick
  dsimp only
  split <;> omega

theorem InstrRecord.take_cycle (h : r.cycle ≤ d.cycles) (b : Byte) : (r.take d b).cycle = min (r.cycle + 1) d.cycles :=
  tick_cycle h

/-- With all bytes fetched, a run of `Step`s takes the cycle units left and ends in the instruction's effect
(40_engine_and_alu_primitives.md R104, R105). -/
theorem resume_settleRecord_idle (hs : s.Live) (hd : r.desc = some d) (hn : r.complete = false)
    (hdec : decode r.bytes = .ok (i, [])) (hf : r.fetch = d.length) {n : Nat} (hc : r.cycle ≤ d.cycles)
    (hle : d.cycles ≤ r.cycle + n) :
    resume n (settleRecord r (s.setCur r)) = runInstr i d r.opcode r.params s := by
  induction n generalizing r with
  | zero => exact resume_settleRecord_atBudget hd hn hdec ((InstrRecord.atBudget_iff hd).2 ⟨hf, by omega⟩) 0 s
  | succ n ih =>
    cases hb : r.atBudget with
    | true => exact resume_settleRecord_atBudget hd hn hdec hb (n + 1) s
    | false =>
      have hlt : r.cycle ≠ d.cycles := fun e => by simp [(InstrRecord.atBudget_iff hd).2 ⟨hf, e⟩] at hb
      have hcycle := InstrRecord.tick_cycle hc
      rw [resume_settleRecord_continue hs hn hb, continueStep_idle hd (by omega)]
      exact ih (r := r.tick d) hd hn hdec hf (by omega) (by omega)

/-- With bytes still to fetch, the next `Step` of a run takes one (40_engine_and_alu_primitives.md R104). -/
theorem resume_settleRecord_fetch (hs : s.Live) (hd : r.desc = some d) (hn : r.complete = false) (hf : r.fetch < d.length)
    (n : Nat) : resume (n + 1) (settleRecord r (s.setCur r)) = (s.setCur r).withFetch fun b s1 =>
      resume n (settleRecord (r.take d b) (s1.setCur (r.take d b))) := by
  have hb : r.atBudget = false := Bool.eq_false_iff.2 fun hb => Nat.ne_of_lt hf ((InstrRecord.atBudget_iff hd).1 hb).1
  rw [resume_settleRecord_continue hs hn hb, continueStep_fetch hd hf, resume_fetchThen]

/-- After the prefix byte, the next `Step` of a run takes the secondary opcode (40_engine_and_alu_primitives.md R103). -/
theorem resume_settleRecord_prefix (hs : s.Live) (hd : r.desc = none) (hn : r.complete = false) (n : Nat) :
    resume (n + 1) (settleRecord r (s.setCur r)) = (s.setCur r).withFetch fun b s1 =>
      resume n (settleRecord (r.prefixed b) (s1.setCur (r.prefixed b))) := by
  have hb : r.atBudget = false := by simp [InstrRecord.atBudget, hd]
  rw [resume_settleRecord_continue hs hn hb, continueStep_prefix hd, resume_fetchThen]

/-- A run from the prefix byte takes the secondary opcode and is the secondary entry's instruction
(40_engine_and_alu_primitives.md R103, R109). -/
theorem resume_dispatchOpcode_bare (hs : s.Live) {op : Byte} (hp : primary op = .bare) :
    resume 5 (dispatchOpcode op s) = runFetched op s := by
  obtain rfl := eq_prefixByte_of_bare hp
  unfold runFetched
  rw [hp, dispatchOpcode_not_hole (by rw [hp]; rfl), resume_settleRecord_prefix hs rfl rfl 4]
  refine State.withFetch_congr hs fun b s1 hs1 => ?_
  obtain ⟨i, hi⟩ := secondary_spec b
  have hle := hi.cycles_le
  simp only [hi.handler]
  exact resume_settleRecord_idle (r := (InstrRecord.first prefixByte).prefixed b) hs1 (descOf_bare hp b []) rfl
    ((decode_bare hp b []).trans (by rw [hi.handler]; rfl)) hi.length.symm hi.cycles_pos
    (show (secondary b).cycles ≤ 2 + 4 by omega)

/-- A run from an opcode with a handler takes its parameter bytes and is its instruction, by what the handler takes
(40_engine_and_alu_primitives.md R104, R109). -/
theorem resume_dispatchOpcode_ins (hs : s.Live) {op : Byte} (hp : primary op = .ins d) :
    resume 5 (dispatchOpcode op s) = runFetched op s := by
  have hspec := primary_spec op
  have hdesc (ps : List Byte) : descOf (op :: ps) = some d := descOf_ins hp ps
  have hdecode (ps : List Byte) : decode (op :: ps) = d.handler.apply ps := decode_ins hp ps
  have hcycle (hpos : 1 ≤ d.cycles) (p : Byte) : ((InstrRecord.first op).take d p).cycle = min 2 d.cycles :=
    InstrRecord.take_cycle (r := .first op) hpos p
  rw [hp] at hspec
  unfold runFetched
  rw [hp, dispatchOpcode_not_hole (by rw [hp]; rfl)]
  cases hspec with
  | plain hh _ hl hpos hle _ =>
    simp only [hh] at hdecode ⊢
    exact resume_settleRecord_idle (r := .first op) hs (hdesc []) rfl (hdecode []) hl.symm hpos (show d.cycles ≤ 1 + 5 by omega)
  | withByte hh _ hl hpos hle _ =>
    simp only [hh] at hdecode ⊢
    rw [resume_settleRecord_fetch (r := .first op) hs (hdesc []) rfl (show 1 < d.length by omega) 4]
    refine State.withFetch_congr hs fun p s1 hs1 => ?_
    have hc := hcycle hpos p
    exact resume_settleRecord_idle (r := (InstrRecord.first op).take d p) hs1 (hdesc [p]) rfl (hdecode [p]) hl.symm
      (by omega) (by omega)
  | withWord hh _ hl hpos hle _ =>
    simp only [hh] at hdecode ⊢
    rw [resume_settleRecord_fetch (r := .first op) hs (hdesc []) rfl (show 1 < d.length by omega) 4]
    refine State.withFetch_congr hs fun p0 s1 hs1 => ?_
    have hc := hcycle hpos p0
    have hrecord : s1.record op [p0] 2 (min 2 d.cycles) = s1.setCur ((InstrRecord.first op).take d p0) := by rw [← hc]; rfl
    rw [hrecord, resume_settleRecord_fetch (r := (InstrRecord.first op).take d p0) hs1 (hdesc [p0]) rfl
      (show 2 < d.length by omega) 3]
    refine State.withFetch_congr hs1 fun p1 s2 hs2 => ?_
    have hc' := InstrRecord.take_cycle (r := (InstrRecord.first op).take d p0) (d := d) (by omega) p1
    exact resume_settleRecord_idle (r := ((InstrRecord.first op).take d p0).take d p1) hs2 (hdesc [p0, p1]) rfl
      (hdecode [p0, p1]) hl.symm (by omega) (by omega)

/-- A run from the dispatch of an opcode byte is the instruction fetched and run (40_engine_and_alu_primitives.md R109): six `Step`s
are enough for the bytes and the cycle units of every table entry. -/
theorem resume_dispatchOpcode (hs : s.Live) (op : Byte) : resume 5 (dispatchOpcode op s) = runFetched op s := by
  cases hp : primary op with
  | hole i =>
    obtain ⟨t, ht⟩ := exec_total i s
    rw [dispatchOpcode_hole hp ht]
    unfold runFetched
    rw [hp]
    exact ht.symm
  | bare => exact resume_dispatchOpcode_bare hs hp
  | ins d => exact resume_dispatchOpcode_ins hs hp

end

/-- Settles O19: both views stop alike before a fetch, and after it they run the table entry of the opcode byte alike. -/
theorem stepIsEngineRun : Obligations.StepIsEngineRun := by
  intro s
  unfold step
  split
  case isFalse hcart => simp only [maxSteps, engineRun_succ, engineStep, hcart]; rfl
  case isTrue hcart =>
    split
    case h_1 q hfault => simp only [maxSteps, engineRun_succ, engineStep, hcart, hfault]; rfl
    case h_2 hfault =>
      split
      case h_1 => rfl
      case h_2 hi =>
        have hs : s.Live := ⟨hcart, hfault⟩
        split
        case isTrue hb => rw [maxSteps, engineRun_succ, engineStep_of_break hs hi hb]; rfl
        case isFalse hb =>
          have hready : s.ready = true := State.ready_iff.2 ⟨hs, hi, Bool.eq_false_iff.2 hb⟩
          calc s.withFetch runFetched
              = s.withFetch fun op s1 => resume 5 (dispatchOpcode op s1) :=
                State.withFetch_congr hs fun op s1 hs1 => (resume_dispatchOpcode hs1 op).symm
            _ = resume 5 (engineStep none s) := by
                rw [← resume_fetchThen, engineStep_of_ready hready, dispatchStep_none]
            _ = engineRun maxSteps s := rfl

/-! ### The instruction whose bytes stand at `PC` -/

section
variable {s : State} {op : Byte} {ps : List Byte} {i : Instr} {d : Desc}

theorem State.withFetch_ok {v : Byte} (h : s.readByte s.pc = .ok v) (k : Byte → State → Result) :
    s.withFetch k = k v { s with pc := s.pc + 1 } := by
  simp only [State.withFetch, State.fetchByte, h]

theorem State.withFetch_record_ok {v : Byte} (h : s.readByte s.pc = .ok v) (m c : Nat) (k : Byte → State → Result) :
    (s.record op ps m c).withFetch k = k v (({ s with pc := s.pc + 1 } : State).record op ps m c) :=
  State.withFetch_ok (s := s.record op ps m c) h k

theorem State.record_record (s : State) (op op' : Byte) (ps ps' : List Byte) (m m' c c' : Nat) :
    (s.record op ps m c).record op' ps' m' c' = s.record op' ps' m' c' := rfl

/-- The record of an instruction that is run replaces the one in progress. -/
theorem runInstr_record (s : State) (op op' : Byte) (ps ps' : List Byte) (m c : Nat) :
    runInstr i d op ps (s.record op' ps' m c) = runInstr i d op ps s := rfl

/-- What stands in memory does not depend on `PC` (20_memory.md R55). -/
theorem State.holds_setPc (w : Word) {bs : List Byte} {a : Word} (h : s.holds a bs) : ({ s with pc := w } : State).holds a bs := by
  induction bs generalizing a with
  | nil => trivial
  | cons b bs ih =>
    obtain ⟨hb, hbs⟩ := h
    exact ⟨hb, ih hbs⟩

/-- The parameter bytes of an instruction are fetched and it is run (40_engine_and_alu_primitives.md R109), by the table entry of its
opcode. -/
theorem runFetched_of_decode (hd : descOf (op :: ps) = some d) (hdec : decode (op :: ps) = .ok (i, [])) (hps : s.holds s.pc ps) :
    runFetched op s = runInstr i d op ps { s with pc := s.pc + BitVec.ofNat 16 ps.length } := by
  have hspec := primary_spec op
  unfold runFetched
  cases hp : primary op with
  | hole => simp [descOf, hp] at hd
  | bare =>
    rcases ps with _ | ⟨b, ps⟩
    · simp [descOf, hp] at hd
    obtain ⟨j, hj⟩ := secondary_spec b
    rw [decode_bare hp, hj.handler, Handler.apply] at hdec
    obtain rfl := Option.some.inj ((descOf_bare hp b ps).symm.trans hd)
    cases hdec
    obtain ⟨hb, -⟩ := hps
    dsimp only
    rw [State.withFetch_record_ok hb, hj.handler]
    exact runInstr_record ..
  | ins d' =>
    obtain rfl := Option.some.inj ((descOf_ins hp ps).symm.trans hd)
    rw [hp] at hspec
    rw [decode_ins hp] at hdec
    cases hspec with
    | plain hh =>
      rw [hh, Handler.apply] at hdec
      cases hdec
      simp only [hh, List.length_nil, BitVec.add_zero]
    | withByte hh =>
      rcases ps with _ | ⟨p, ps⟩ <;> rw [hh, Handler.apply] at hdec <;> cases hdec
      obtain ⟨hb, -⟩ := hps
      simp only [hh]
      rw [State.withFetch_record_ok hb, runInstr_record]
      rfl
    | withWord hh =>
      rcases ps with _ | ⟨p0, _ | ⟨p1, ps⟩⟩ <;> rw [hh, Handler.apply] at hdec <;> cases hdec
      obtain ⟨hb0, hb1, -⟩ := hps
      simp only [hh]
      have hpc : s.pc + 1 + 1 = s.pc + 2 := BitVec.add_assoc ..
      rw [State.withFetch_record_ok hb0, State.record_record, State.withFetch_record_ok hb1, runInstr_record, hpc]
      rfl

/-- The bytes of an instruction and nothing after them decode to it (30_encoding.md R81). -/
theorem decode_encode (h : i.WellFormed = true) : decode (encode i) = .ok (i, []) := by
  have hdec := decodeOfEncode i [] h
  rwa [List.append_nil] at hdec

/-- An instruction with declared counts has a descriptor and is what its bytes decode to (30_encoding.md R86). -/
theorem decode_of_counts {len cyc : Nat} (h : counts i = some (len, cyc)) :
    (encode i).length = len ∧ decode (encode i) = .ok (i, []) ∧
      ∃ d, descOf (encode i) = some d ∧ d.length = len ∧ d.cycles = cyc := by
  have hi : i.HasHandler = true := by
    obtain ⟨-, hnone⟩ := declaredCounts i
    cases hi : i.HasHandler with
    | true => rfl
    | false => cases (hnone hi).symm.trans h
  obtain ⟨n, -, hlen⟩ := Option.map_eq_some_iff.1 ((counts_eq i).symm.trans h)
  obtain ⟨d, hd, hcounts⟩ := Option.map_eq_some_iff.1 h
  exact ⟨congrArg Prod.fst hlen, decode_encode ((hasHandler_iff i).1 hi).1, d, hd,
    congrArg Prod.fst hcounts, congrArg Prod.snd hcounts⟩

/-- A hole is one byte, whose table entry it is (30_encoding.md R89). -/
theorem primary_of_isHole (h : i.isHole = true) : ∃ op, encode i = [op] ∧ primary op = .hole i := by
  obtain ⟨op, hform⟩ : ∃ op, i.form = .undef op := by
    unfold Instr.isHole at h
    split at h
    case h_1 op hf => exact ⟨op, hf⟩
    case h_2 => cases h
  have henc : encode i = [op] := by rw [encode, hform]; rfl
  have hdec : decode [op] = .ok (i, []) := henc ▸ decode_encode (by simp [Instr.WellFormed, Instr.isBarePrefix, hform])
  refine ⟨op, henc, ?_⟩
  cases hp : primary op with
  | ins d =>
    have hi := hasHandler_of_decode (descOf_ins hp []) hdec
    cases h.symm.trans ((hasHandler_iff i).1 hi).2
  | bare =>
    obtain rfl := eq_prefixByte_of_bare hp
    cases hdec
    cases h
  | hole j =>
    cases (decode_hole hp []).symm.trans hdec
    rfl

end

/-- Settles O18: a step at a ready state fetches the opcode byte, and its table entry asks for the bytes of the instruction. -/
theorem stepRunsDecoded : Obligations.StepRunsDecoded := by
  refine ⟨fun i s op params len cyc henc hcounts hready hholds => ?_, fun i s hi hready hholds => ?_⟩
  · obtain ⟨hlen, hdec, d, hd, rfl, rfl⟩ := decode_of_counts hcounts
    rw [henc] at hlen hdec hd hholds
    obtain ⟨hop, hparams⟩ := hholds
    have hpc : s.pc + 1 + BitVec.ofNat 16 params.length = s.pc + BitVec.ofNat 16 d.length := by
      rw [← hlen, List.length_cons, BitVec.add_assoc, BitVec.add_comm 1, BitVec.ofNat_add]; rfl
    calc step s = s.withFetch runFetched := step_of_ready hready
      _ = runFetched op { s with pc := s.pc + 1 } := State.withFetch_ok hop _
      _ = runInstr i d op params { s with pc := s.pc + 1 + BitVec.ofNat 16 params.length } :=
          runFetched_of_decode hd hdec (State.holds_setPc _ hparams)
      _ = _ := by rw [hpc]; rfl
  · obtain ⟨op, henc, hp⟩ := primary_of_isHole hi
    rw [henc] at hholds
    obtain ⟨hop, -⟩ := hholds
    rw [step_of_ready hready, State.withFetch_ok hop]
    simp only [runFetched, hp]

/-! ### The queries -/

/-- An instruction has a first byte (30_encoding.md R80). -/
theorem encode_ne_nil (i : Instr) : encode i ≠ [] := by
  unfold encode
  cases i.form <;> exact List.cons_ne_nil _ _

/-- The counts of an instruction are those of the table entry of its opcode (30_encoding.md R86). -/
theorem counts_of_decode {op : Byte} {ps rest : List Byte} {i : Instr} {d : Desc} (hp : primary op = .ins d)
    (h : decode (op :: ps) = .ok (i, rest)) : counts i = some (d.length, d.cycles) := by
  have hbytes := encodeOfDecode (op :: ps) rest i h
  cases henc : encode i with
  | nil => exact absurd henc (encode_ne_nil i)
  | cons op' ps' =>
    rw [henc] at hbytes
    obtain ⟨rfl, -⟩ := List.cons.inj hbytes
    rw [counts, Instr.desc, henc, descOf_ins hp]
    rfl

/-- Settles O28: the descriptor query by the table entry of the opcode; every other query reads the state. -/
theorem queriesArePure : Obligations.QueriesArePure := by
  refine fun s => ⟨fun op => ⟨descView op, rfl, ?_⟩, rfl, rfl,
    ⟨s.registerView, rfl, ⟨rfl, rfl, rfl, rfl, rfl, rfl, rfl, rfl, rfl, rfl⟩, rfl, rfl, rfl, rfl⟩,
    s.controllerView, rfl, rfl, rfl, rfl, rfl⟩
  have hhole := primary_isHole_iff op
  have hbare : primary op = .bare ↔ op = 0xCB := ⟨eq_prefixByte_of_bare, fun e => e ▸ primary_prefixByte⟩
  rw [← hhole, ← hbare]
  cases hp : primary op with
  | ins d =>
    rw [descView_ins hp]
    exact ⟨rfl, by simp [Entry.isHole], nofun, fun _ i rest h => ⟨d.length, d.cycles, counts_of_decode hp h, rfl, rfl⟩⟩
  | bare =>
    rw [descView_bare hp]
    exact ⟨rfl, by simp, fun _ => ⟨rfl, rfl⟩, nofun⟩
  | hole i =>
    rw [descView_hole hp]
    exact ⟨rfl, by simp [Entry.isHole], fun _ => ⟨rfl, rfl⟩, nofun⟩

end Sys2Proof.Machine

/-! ## 8-bit loads and stores (41_load8.md) -/

namespace Sys2Proof.Machine

section
variable {i : Instr} {s : State} {a : Word}

/-- The bytes and counts of an instruction whose form is known (30_encoding.md R86). -/
theorem encodes_of_form {f : Form} {n : Nat} (h : i.form = f) (hn : formCycles f = some n) :
    Encodes i f.encode f.encode.length n := by
  refine ⟨congrArg Form.encode h, ?_⟩
  rw [counts_eq, encode, h, hn, Option.map_some]

/-- An instruction that is a read and what follows it: the two ends of the read (60_exceptions.md R262). -/
theorem exec_withRead {k : Byte → Result} (h : exec i s = s.withRead a k) :
    (∀ v, s.readByte a = .ok v → exec i s = k v) ∧
    (∀ r, s.readByte a = .error r → exec i s = .next { s with fault := some r }) :=
  ⟨fun _ hv => h.trans (State.withRead_ok hv k), fun _ hr => h.trans (State.withRead_error hr k)⟩

/-- An instruction that is a write and what follows it: the two ends of the write (60_exceptions.md R262). -/
theorem exec_withWrite {v : Byte} {k : State → Result} (h : exec i s = s.withWrite a v k) :
    (∀ t, s.writeByte a v = .ok t → exec i s = k t) ∧
    (∀ r, s.writeByte a v = .error r → exec i s = .next { s with fault := some r }) :=
  ⟨fun _ ht => h.trans (State.withWrite_ok ht k), fun _ hr => h.trans (State.withWrite_error hr k)⟩

end

/-- The top page as an offset from 0xFF00 (30_encoding.md R83). -/
theorem highPage_eq_add (n : Byte) : highPage n = 0xFF00 + n.setWidth 16 := by
  revert n
  decide

/-- The top page is RAM (20_memory.md R42). -/
theorem ramBase_le_highPage (n : Byte) : Config.ramBase ≤ (highPage n).toNat := by
  have hn := n.isLt
  rw [highPage_eq_add, Config.ramBase]
  bv_omega

/-! ### The statements of the family, in a namespace of their own beside the model's `loadA` and `storeA` -/

namespace Load8

/-- Settles O29: the effect of each form; the third is a read at HL. -/
theorem loadRegister : Obligations.LoadRegister := fun _ s =>
  ⟨fun _ _ hi => ⟨encodes_of_form hi rfl, exec_of_form hi s⟩,
    fun _ _ hi => ⟨encodes_of_form hi rfl, exec_of_form hi s⟩,
    fun _ hi => ⟨encodes_of_form hi rfl, exec_withRead (exec_of_form hi s)⟩⟩

/-- Settles O30: both forms are one write at HL. -/
theorem storeAtHl : Obligations.StoreAtHl := by
  rintro i s v bytes L N (⟨src, hi, rfl, ⟨⟩⟩ | ⟨hi, ⟨⟩⟩)
  all_goals exact ⟨encodes_of_form hi rfl, exec_withWrite (exec_of_form hi s)⟩

/-- Settles O31: each form is one read into A, and those that cannot fault read the top page. -/
theorem loadA : Obligations.LoadA := by
  intro i s addr bytes L N h
  obtain ⟨henc, hexec, hhigh⟩ : Encodes i bytes L N ∧ exec i s = Machine.loadA addr s ∧
      ((∃ n, i.form = .ldhAAtA8 n) ∨ i.form = .ldAAtC → Config.ramBase ≤ addr.toNat) := by
    obtain ⟨hi, rfl, ⟨⟩⟩ | ⟨hi, rfl, ⟨⟩⟩ | ⟨hi, ⟨⟩⟩ | ⟨n, hi, rfl, ⟨⟩⟩ | ⟨hi, rfl, ⟨⟩⟩ := h
    case inl | inr.inl | inr.inr.inl => exact ⟨encodes_of_form hi rfl, exec_of_form hi s, by simp [hi]⟩
    all_goals
      rw [← highPage_eq_add]
      exact ⟨encodes_of_form hi rfl, exec_of_form hi s, fun _ => ramBase_le_highPage _⟩
  obtain ⟨hok, herr⟩ := exec_withRead hexec
  exact ⟨henc, hok, herr, fun hf => ⟨_, s.readByte_ram (hhigh hf)⟩⟩

/-- Settles O32: each form is one write of A, and those that cannot fault write to the top page. -/
theorem storeA : Obligations.StoreA := by
  intro i s addr bytes L N h
  obtain ⟨henc, hexec, hhigh⟩ : Encodes i bytes L N ∧ exec i s = Machine.storeA addr s ∧
      ((∃ n, i.form = .ldhAtA8A n) ∨ i.form = .ldAtCA → Config.ramBase ≤ addr.toNat) := by
    obtain ⟨hi, rfl, ⟨⟩⟩ | ⟨hi, rfl, ⟨⟩⟩ | ⟨hi, ⟨⟩⟩ | ⟨n, hi, rfl, ⟨⟩⟩ | ⟨hi, rfl, ⟨⟩⟩ := h
    case inl | inr.inl | inr.inr.inl => exact ⟨encodes_of_form hi rfl, exec_of_form hi s, by simp [hi]⟩
    all_goals
      rw [← highPage_eq_add]
      exact ⟨encodes_of_form hi rfl, exec_of_form hi s, fun _ => ramBase_le_highPage _⟩
  obtain ⟨hok, herr⟩ := exec_withWrite hexec
  exact ⟨henc, hok, herr, fun hf => ⟨_, s.writeByte_ram _ (hhigh hf)⟩⟩

/-- Settles O33: each form is one access at HL, and HL moves in what follows the access. -/
theorem postIncrementLoads : Obligations.PostIncrementLoads := by
  refine fun i s next bytes L N => ⟨?_, ?_⟩
  · rintro (⟨hi, rfl, ⟨⟩⟩ | ⟨hi, rfl, ⟨⟩⟩)
    all_goals exact ⟨encodes_of_form hi rfl, exec_withWrite (exec_of_form hi s)⟩
  · rintro (⟨hi, rfl, ⟨⟩⟩ | ⟨hi, rfl, ⟨⟩⟩)
    all_goals exact ⟨encodes_of_form hi rfl, exec_withRead (exec_of_form hi s)⟩

end Load8

end Sys2Proof.Machine

/-! ## 16-bit loads and the stack (42_load16.md) -/

namespace Sys2Proof.Machine

/-! ### Two accesses in a row -/

section
variable {i : Instr} {s : State}

/-- An instruction that is two writes and what follows them: the three ends, the first write done when the second faults
(60_exceptions.md R266). -/
theorem exec_withWrites {a b : Word} {v w : Byte} {k : State → Result}
    (h : exec i s = s.withWrite a v fun s1 => s1.withWrite b w k) :
    (∀ s1 s2, s.writeByte a v = .ok s1 → s1.writeByte b w = .ok s2 → exec i s = k s2) ∧
    (∀ r, s.writeByte a v = .error r → exec i s = .next { s with fault := some r }) ∧
    (∀ s1 r, s.writeByte a v = .ok s1 → s1.writeByte b w = .error r → exec i s = .next { s1 with fault := some r }) := by
  obtain ⟨hok, herr⟩ := exec_withWrite h
  exact ⟨fun s1 s2 h1 h2 => (hok s1 h1).trans (State.withWrite_ok h2 k), herr,
    fun s1 r h1 h2 => (hok s1 h1).trans (State.withWrite_error h2 k)⟩

/-- An instruction that is two reads and what follows them: the three ends; a read changes nothing (60_exceptions.md R262). -/
theorem exec_withReads {a b : Word} {k : Byte → Byte → Result}
    (h : exec i s = s.withRead a fun x => s.withRead b (k x)) :
    (∀ x y, s.readByte a = .ok x → s.readByte b = .ok y → exec i s = k x y) ∧
    (∀ r, s.readByte a = .error r → exec i s = .next { s with fault := some r }) ∧
    (∀ x r, s.readByte a = .ok x → s.readByte b = .error r → exec i s = .next { s with fault := some r }) := by
  obtain ⟨hok, herr⟩ := exec_withRead h
  exact ⟨fun x y h1 h2 => (hok x h1).trans (State.withRead_ok h2 (k x)), herr,
    fun x r h1 h2 => (hok x h1).trans (State.withRead_error h2 (k x))⟩

end

/-! ### The flags a result leaves -/

/-- After a flag write `F` holds the four flags of the result and nothing else (10_state.md R13, R14). -/
theorem State.flagsAre_putFlags {w : Nat} (s : State) (o : Flagged w) : (s.putFlags o).flagsAre o.z o.n o.h o.c :=
  ⟨State.putFlags_zf s o, State.putFlags_nf s o, State.putFlags_hf s o, State.putFlags_cf s o,
    (State.putFlags_f s o).symm ▸ packF_low o.z o.n o.h o.c⟩

/-! ### The stack in RAM -/

/-- With both stack bytes in RAM a push goes on with `SP` moved and nothing but RAM written, and a pop there goes on with the word
pushed and `SP` restored (42_load16.md R154, R155). -/
theorem State.push16_then_pop16 {s : State} (w : Word) (hram : Cells.wf Config.ramBase Config.spaceSize s.ram = true)
    (hhigh : Config.ramBase ≤ (s.sp - 1).toNat) (hlow : Config.ramBase ≤ (s.sp - 2).toNat) :
    ∃ t, t = { s with ram := t.ram } ∧ (∀ k, s.push16 w k = k { t with sp := s.sp - 2 }) ∧
      ∀ k, ({ t with sp := s.sp - 2 } : State).pop16 k = k w t := by
  obtain ⟨s1, hw1, hs1, hram1, hr1, -⟩ := ramCells s (s.sp - 1) (hiByte w) hram hhigh
  obtain ⟨t, hw2, ht, -, hr2, hrest⟩ := ramCells s1 (s.sp - 2) (loByte w) hram1 hlow
  have htop : s.sp - 2 + 1 = s.sp - 1 := by bv_omega
  have hreadLow : ({ t with sp := s.sp - 2 } : State).readByte (s.sp - 2) = .ok (loByte w) := hr2
  have hreadHigh : ({ t with sp := s.sp - 2 } : State).readByte (s.sp - 2 + 1) = .ok (hiByte w) := by
    rw [htop]
    exact (hrest (s.sp - 1) (by bv_omega)).trans hr1
  have hsp : s.sp - 2 + 2 = t.sp := by rw [ht, hs1]; exact BitVec.sub_add_cancel ..
  refine ⟨t, by rw [ht, hs1], State.push16_ok hw1 hw2, fun k => ?_⟩
  rw [State.pop16_ok hreadLow hreadHigh, joinBytes_hiByte_loByte]
  dsimp only
  rw [hsp]

/-! ### The statements of the family -/

/-- Settles O34: the effect of each form; a pair is its two bytes. -/
theorem loadPair : Obligations.LoadPair := by
  refine fun i s => ⟨fun p nn hi => ⟨encodes_of_form hi rfl, ?_⟩, fun hi => ⟨encodes_of_form hi rfl, exec_of_form hi s⟩⟩
  cases p <;> exact exec_of_form hi s

/-- Settles O35: both forms write the value and the flags of one `ADDSP` (40_engine_and_alu_primitives.md R121). -/
theorem spPlusOffset : Obligations.SpPlusOffset := fun _ s e =>
  have hflags := s.flagsAre_putFlags (addSp s.sp e)
  ⟨fun hi => ⟨encodes_of_form hi rfl, _, exec_of_form hi s, rfl, joinBytes_hiByte_loByte _, hflags⟩,
    fun hi => ⟨encodes_of_form hi rfl, _, exec_of_form hi s, rfl, rfl, hflags⟩⟩

/-- Settles O36: the form is two writes and nothing after them. -/
theorem storeSp : Obligations.StoreSp := fun _ s _ hi =>
  ⟨encodes_of_form hi rfl, exec_withWrites (exec_of_form hi s)⟩

/-- Settles O37: a push is two writes, and `SP` moves in what follows them. -/
theorem pushPair : Obligations.PushPair := by
  rintro i s p w hi rfl
  refine ⟨encodes_of_form hi rfl, ?_⟩
  cases p <;> exact exec_withWrites (exec_of_form hi s)

/-- Settles O38: a pop is two reads, and the word that follows them is split into the bytes read. -/
theorem popPair : Obligations.PopPair := by
  intro i s p hform
  obtain ⟨hok, herr⟩ := exec_withReads (exec_of_form hform s)
  refine ⟨encodes_of_form hform rfl, fun lo hi hlo hhi => (hok lo hi hlo hhi).trans ?_, herr⟩
  cases p <;> simp [State.setStackPair, State.setBc, State.setDe, State.setHl, State.setAf, State.writeF]

/-- Settles O39: both instructions go on past their stack accesses, and after those only the pair popped into is written. -/
theorem pushThenPop : Obligations.PushThenPop := by
  intro i j s p q hi hj hram hhigh hlow
  obtain ⟨t, ht, hpush, hpop⟩ := State.push16_then_pop16 (s.getStackPair p) hram hhigh hlow
  refine ⟨{ t with sp := s.sp - 2 }, t.setStackPair q (s.getStackPair p), (exec_of_form hi s).trans (hpush .next),
    (exec_of_form hj _).trans (hpop fun w u => .next (u.setStackPair q w)), ?_, ?_⟩
  · rw [State.setStackPair_sp, ht]
  · rw [ht]
    cases q <;> rfl

end Sys2Proof.Machine

/-! ## 8-bit arithmetic and logic (43_alu8.md) -/

namespace Sys2Proof.Machine

/-! ### The operations as their rules state them -/

/-- A carry-in that only one operation reads, as a number. -/
theorem toNat_decide_and (p : Prop) [Decidable p] (c : Bool) : (decide p && c).toNat = if p then c.toNat else 0 := by
  by_cases hp : p <;> simp [hp]

/-- `ADD` and `ADC` are one `ADD8`, of which only `ADC` hands in C (R160, R163). -/
theorem aluOut_add {op : AluOp} (h : op = .add ∨ op = .adc) (a b : Byte) (c : Bool) :
    aluOut op a b c = add8 a b (decide (op = .adc) && c) := by
  obtain rfl | rfl := h <;> rfl

/-- `SUB`, `SBC` and `CP` are one `SUB8`, of which only `SBC` hands in C (R166, R169, R181). -/
theorem aluOut_sub {op : AluOp} (h : op = .sub ∨ op = .sbc ∨ op = .cp) (a b : Byte) (c : Bool) :
    aluOut op a b c = sub8 a b (decide (op = .sbc) && c) := by
  obtain rfl | rfl | rfl := h <;> rfl

/-- `SUB8` on unbounded integers (R196). -/
theorem sub8_eq {a b : Byte} {cin : Bool} {d : Int} (hd : d = a.toNat - b.toNat - cin.toNat) :
    sub8 a b cin = {
      val := BitVec.ofInt 8 d, z := decide (d % 256 = 0), n := true
      h := decide ((a.toNat % 16 : Int) < b.toNat % 16 + cin.toNat)
      c := decide ((a.toNat : Int) < b.toNat + cin.toNat) } := by
  have hb := b.isLt
  have hc := cin.toNat_le
  have hmod : ((a.toNat + 512 - (b.toNat + cin.toNat) : Nat) : Int) % 256 = d % 256 := by omega
  have hval : BitVec.ofNat 8 (a.toNat + 512 - (b.toNat + cin.toNat)) = BitVec.ofInt 8 d := by
    apply BitVec.eq_of_toNat_eq
    rw [BitVec.toNat_ofNat, BitVec.toNat_ofInt]
    omega
  simp only [sub8, hval, Bool.beq_eq_decide_eq, Flagged.mk.injEq, true_and, decide_eq_decide]
  omega

/-- `INC8` (40_engine_and_alu_primitives.md R115). -/
theorem inc8_eq (v : Byte) (c : Bool) : inc8 v c =
    { val := v + 1, z := decide (v = 0xFF), n := false, h := decide (v.toNat % 16 = 15), c := c } := by
  revert v c
  decide

/-- `DEC8` (40_engine_and_alu_primitives.md R116). -/
theorem dec8_eq (v : Byte) (c : Bool) : dec8 v c =
    { val := v - 1, z := decide (v = 0x01), n := true, h := decide (v.toNat % 16 = 0), c := c } := by
  revert v c
  decide

/-! ### `DAA` on numbers -/

/-- The correction of `DAA` (R188): 0x06 and 0x60 as asked for. -/
def daaCorrection (low high : Bool) : Nat := (if low then 0x06 else 0) + (if high then 0x60 else 0)

theorem toNat_daaCorrection (low high : Bool) :
    ((if low then 0x06 else 0x00) ||| (if high then 0x60 else 0x00) : Byte).toNat = daaCorrection low high := by
  revert low high
  decide

theorem daaCorrection_le (low high : Bool) : daaCorrection low high ≤ 0x66 := by
  revert low high
  decide

/-- `DAA` subtracts the correction after a subtraction and else adds it, modulo 256 (R188). -/
theorem daa8_val {a : Byte} {n h c low high : Bool} (hlow : low = (h || (!n && decide (a.toNat % 16 > 9))))
    (hhigh : high = (c || (!n && decide (a.toNat > 0x99)))) :
    ((daa8 a n h c).val.toNat : Int) =
      (if n then (a.toNat : Int) - daaCorrection low high else a.toNat + daaCorrection low high) % 256 := by
  have hcorr := daaCorrection_le low high
  simp only [daa8, ← hlow, ← hhigh]
  cases n
  · simp only [Bool.false_eq_true, if_false, BitVec.toNat_add, toNat_daaCorrection]
    omega
  · simp only [if_true, BitVec.toNat_sub, toNat_daaCorrection]
    omega

/-- `DAA` on the accumulator and the flags that an operation leaves. -/
def Flagged.daa (o : Flagged 8) : Flagged 8 := daa8 o.val o.n o.h o.c

/-- Packed BCD as a number (R188). -/
theorem bcd_toNat {x : Nat} (hx : x < 100) : (bcd x).toNat = 16 * (x / 10) + x % 10 := by
  rw [bcd, BitVec.toNat_ofNat]
  omega

/-- `DAA` leaves a packed BCD value where the corrected accumulator is one, and the high correction in C (R188). -/
theorem Flagged.daa_eq_bcd {o : Flagged 8} {low high : Bool} {m : Nat}
    (hlow : low = true ↔ o.h = true ∨ o.n = false ∧ o.val.toNat % 16 > 9)
    (hhigh : high = true ↔ o.c = true ∨ o.n = false ∧ o.val.toNat > 0x99) (hm : m < 100)
    (hval : (if o.n then (o.val.toNat : Int) - daaCorrection low high else o.val.toNat + daaCorrection low high) % 256 =
      (16 * (m / 10) + m % 10 : Nat)) : o.daa.val = bcd m ∧ o.daa.c = high := by
  have hlow' : low = (o.h || (!o.n && decide (o.val.toNat % 16 > 9))) := Bool.eq_iff_iff.2 (by simpa using hlow)
  have hhigh' : high = (o.c || (!o.n && decide (o.val.toNat > 0x99))) := Bool.eq_iff_iff.2 (by simpa using hhigh)
  have hnat := Int.ofNat_inj.1 ((daa8_val hlow' hhigh').trans hval)
  exact ⟨BitVec.eq_of_toNat_eq (hnat.trans (bcd_toNat hm).symm), hhigh'.symm⟩

section
variable {x y n : Nat} {cin : Bool} (hx : x < 100) (hy : y < 100)
include hx hy

/-- `DAA` after `ADD8` of packed BCD corrects the low digit when the units carry and the high digit when the tens do (R188, R195). -/
theorem daa_add8_bcd (hn : n = x + y + cin.toNat) :
    (add8 (bcd x) (bcd y) cin).daa.val = bcd (n % 100) ∧ (add8 (bcd x) (bcd y) cin).daa.c = decide (100 ≤ n) := by
  have hc := cin.toNat_le
  refine Flagged.daa_eq_bcd (low := decide (10 ≤ x % 10 + y % 10 + cin.toNat)) ?_ ?_ (Nat.mod_lt _ (by decide)) ?_
  all_goals
    simp only [add8, bcd_toNat hx, bcd_toNat hy, BitVec.toNat_ofNat, daaCorrection, decide_eq_true_eq, true_and,
      Bool.false_eq_true, if_false]
  · omega
  · have hsum : 16 * (x / 10) + x % 10 + (16 * (y / 10) + y % 10) + cin.toNat = n + 6 * (x / 10 + y / 10) := by omega
    rw [hsum]
    obtain htens | htens := Nat.lt_or_ge (x / 10 + y / 10) 10
    · rw [Nat.mod_eq_of_lt (by omega)]
      omega
    · omega
  · split <;> split <;> omega

/-- `DAA` after `SUB8` of packed BCD corrects the low digit when the units borrow and the high digit when the tens do (R188, R196). -/
theorem daa_sub8_bcd (hn : n = y + cin.toNat) :
    (sub8 (bcd x) (bcd y) cin).daa.val = bcd ((x + 100 - n) % 100) ∧ (sub8 (bcd x) (bcd y) cin).daa.c = decide (x < n) := by
  have hc := cin.toNat_le
  refine Flagged.daa_eq_bcd (low := decide (x % 10 < y % 10 + cin.toNat)) ?_ ?_ (Nat.mod_lt _ (by decide)) ?_
  all_goals
    simp only [sub8, bcd_toNat hx, bcd_toNat hy, BitVec.toNat_ofNat, daaCorrection, decide_eq_true_eq, Bool.true_eq_false,
      false_and, or_false, if_true]
  · omega
  · omega
  · split <;> split <;> omega

end

/-! ### Result and flags written -/

/-- The flags depend on `F` alone (10_state.md R14). -/
theorem State.flagsAre.congr {s t : State} {z n h c : Bool} (hs : s.flagsAre z n h c) (hf : t.f = s.f) : t.flagsAre z n h c := by
  unfold State.flagsAre State.zf State.nf State.hf State.cf at *
  rwa [hf]

/-- After the four flags are written they are what `F` holds (10_state.md R13, R14). -/
theorem State.flagsAre_setFlags (s : State) (z n h c : Bool) : (s.setFlags z n h c).flagsAre z n h c :=
  s.flagsAre_putFlags (w := 0) { val := 0, z := z, n := n, h := h, c := c }

/-- Result and flags of an operation written together. -/
theorem State.setReg_putFlags (s : State) (o : Flagged 8) (r : Reg8) :
    (s.putFlags o).setReg r o.val = { s.setReg r o.val with f := ((s.putFlags o).setReg r o.val).f } ∧
    ((s.putFlags o).setReg r o.val).flagsAre o.z o.n o.h o.c :=
  ⟨by cases r <;> rfl, (s.flagsAre_putFlags o).congr (State.setReg_f ..)⟩

/-! ### What the instructions of the family are -/

section
variable {i : Instr} {s : State} {op : AluOp}

/-- The bytes and counts of the nine instructions of an operation (30_encoding.md R85). -/
theorem encodes_alu (i : Instr) (op : AluOp) : (∀ src, i.form = .aluR op src → Encodes i [0x80 + 8 * op.code + src.code] 1 1) ∧
    (i.form = .aluAtHl op → Encodes i [0x86 + 8 * op.code] 1 2) ∧
    (∀ n, i.form = .aluD8 op n → Encodes i [0xC6 + 8 * op.code, n] 2 2) :=
  ⟨fun _ h => encodes_of_form h rfl, fun h => encodes_of_form h rfl, fun _ h => encodes_of_form h rfl⟩

/-- The three forms of a second operand. -/
theorem aluOperand_cases {x : Except FaultRecord Byte} (h : aluOperand i s = some (op, x)) :
    (∃ src, i.form = .aluR op src ∧ x = .ok (s.getReg src)) ∨ (i.form = .aluAtHl op ∧ x = s.readByte s.hl) ∨
      ∃ n, i.form = .aluD8 op n ∧ x = .ok n := by
  unfold aluOperand at h
  split at h
  case h_1 hf => cases h; exact .inl ⟨_, hf, rfl⟩
  case h_2 hf => cases h; exact .inr (.inl ⟨hf, rfl⟩)
  case h_3 hf => cases h; exact .inr (.inr ⟨_, hf, rfl⟩)
  case h_4 => cases h

/-- An operation whose operand is there is done with it. -/
theorem exec_alu_ok {b : Byte} (h : aluOperand i s = some (op, .ok b)) : exec i s = .next (s.alu op b) := by
  obtain ⟨src, hf, ⟨⟩⟩ | ⟨hf, hb⟩ | ⟨n, hf, ⟨⟩⟩ := aluOperand_cases h
  · exact exec_of_form hf s
  · exact (exec_withRead (exec_of_form hf s)).1 b hb.symm
  · exact exec_of_form hf s

/-- An operation whose operand cannot be read changes nothing but the latch (60_exceptions.md R262). -/
theorem exec_alu_error {r : FaultRecord} (h : aluOperand i s = some (op, .error r)) :
    exec i s = .next { s with fault := some r } := by
  obtain ⟨src, hf, ⟨⟩⟩ | ⟨hf, hr⟩ | ⟨n, hf, ⟨⟩⟩ := aluOperand_cases h
  exact (exec_withRead (exec_of_form hf s)).2 r hr.symm

/-- An operation writes A and F alone. -/
theorem State.alu_frame (s : State) (op : AluOp) (b : Byte) : s.alu op b = { s with a := (s.alu op b).a, f := (s.alu op b).f } := by
  cases op <;> rfl

/-- `CP` leaves A, and every other operation leaves its result there (R181). -/
theorem State.alu_a (s : State) (op : AluOp) (b : Byte) :
    (s.alu op b).a = if op = .cp then s.a else (aluOut op s.a b s.cf).val := by
  cases op <;> rfl

/-- The flags of an operation are those of its result, for `CP` as well. -/
theorem State.flagsAre_alu (s : State) (op : AluOp) (b : Byte) : (s.alu op b).flagsAre (aluOut op s.a b s.cf).z
    (aluOut op s.a b s.cf).n (aluOut op s.a b s.cf).h (aluOut op s.a b s.cf).c :=
  (s.flagsAre_putFlags (aluOut op s.a b s.cf)).congr (by cases op <;> rfl)

/-- `DAA` writes A and F alone. -/
theorem exec_daa (s : State) : ∃ t, exec .daa s = .next t ∧ t = { s with a := t.a, f := t.f } ∧
    t.a = (daa8 s.a s.nf s.hf s.cf).val ∧ t.flagsAre (daa8 s.a s.nf s.hf s.cf).z (daa8 s.a s.nf s.hf s.cf).n
      (daa8 s.a s.nf s.hf s.cf).h (daa8 s.a s.nf s.hf s.cf).c :=
  ⟨_, rfl, rfl, rfl, (s.flagsAre_putFlags (daa8 s.a s.nf s.hf s.cf)).congr rfl⟩

/-- `DAA` after an operation sees its result in A and its flags in `F`. -/
theorem exec_daa_alu (s : State) (b : Byte) (hop : op ≠ .cp) : ∃ u, exec .daa (s.alu op b) = .next u ∧
    u.a = (aluOut op s.a b s.cf).daa.val ∧ u.cf = (aluOut op s.a b s.cf).daa.c := by
  obtain ⟨-, hn, hh, hc, -⟩ := s.flagsAre_alu op b
  obtain ⟨u, hu, -, ha, -, -, -, hcf, -⟩ := exec_daa (s.alu op b)
  rw [s.alu_a, if_neg hop, hn, hh, hc] at ha hcf
  exact ⟨u, hu, ha, hcf⟩

/-- A byte read, changed and written back, the flags written in between: they stay when the write faults (R185, R187). -/
theorem exec_modify_ok {a : Word} {o : Byte → Flagged 8}
    (h : exec i s = s.withRead a fun v => (s.putFlags (o v)).withWrite a (o v).val .next) {v : Byte} (hv : s.readByte a = .ok v) :
    ∃ s1 : State, s1 = { s with f := s1.f } ∧ s1.flagsAre (o v).z (o v).n (o v).h (o v).c ∧
      (∀ t, s1.writeByte a (o v).val = .ok t → exec i s = .next t) ∧
      (∀ r, s1.writeByte a (o v).val = .error r → exec i s = .next { s1 with fault := some r }) := by
  have hw := (exec_withRead h).1 v hv
  exact ⟨s.putFlags (o v), rfl, s.flagsAre_putFlags (o v), fun _ ht => hw.trans (State.withWrite_ok ht _),
    fun _ hr => hw.trans (State.withWrite_error hr _)⟩

end

/-! ### The statements of the family -/

/-- Settles O40: both operations are one `ADD8`. -/
theorem addAdc : Obligations.AddAdc := by
  intro i s op hop
  obtain ⟨hreg, hhl, himm⟩ := encodes_alu i op
  refine ⟨hreg, hhl, himm, fun r => exec_alu_error, fun b cin hb hcin => ?_⟩
  obtain rfl : cin = (decide (op = .adc) && s.cf).toNat := hcin.trans (toNat_decide_and ..).symm
  have hcp : op ≠ .cp := by rintro rfl; simp at hop
  have ha := s.alu_a op b
  have hflags := s.flagsAre_alu op b
  rw [aluOut_add hop] at ha hflags
  exact ⟨_, exec_alu_ok hb, s.alu_frame op b, by rw [ha, if_neg hcp]; exact BitVec.toNat_ofNat .., hflags⟩

/-- Settles O41: the three operations are one `SUB8`, read on integers. -/
theorem subSbcCp : Obligations.SubSbcCp := by
  intro i s op hop
  obtain ⟨hreg, hhl, himm⟩ := encodes_alu i op
  refine ⟨hreg, hhl, himm, fun r => exec_alu_error, fun b cin d hb hcin hd => ?_⟩
  obtain rfl : cin = (decide (op = .sbc) && s.cf).toNat := by
    rw [hcin]
    obtain rfl | rfl | rfl := hop <;> cases s.cf <;> rfl
  have ha := s.alu_a op b
  have hflags := s.flagsAre_alu op b
  rw [aluOut_sub hop, sub8_eq hd] at ha hflags
  exact ⟨_, exec_alu_ok hb, s.alu_frame op b, ha, hflags⟩

/-- Settles O42: the result is the bitwise operation itself. -/
theorem logic : Obligations.Logic := by
  intro i s op hop
  obtain ⟨hreg, hhl, himm⟩ := encodes_alu i op
  refine ⟨hreg, hhl, himm, fun r => exec_alu_error, fun b hb => ⟨_, exec_alu_ok hb, s.alu_frame op b, ?_⟩⟩
  have hflags := s.flagsAre_alu op b
  obtain rfl | rfl | rfl := hop
  · exact ⟨fun k => BitVec.getLsbD_and, hflags⟩
  · exact ⟨fun k => BitVec.getLsbD_xor, hflags⟩
  · exact ⟨fun k => BitVec.getLsbD_or, hflags⟩

/-- Settles O43: the four forms are `INC8` and `DEC8`, and the bytes at HL are read, changed and written. -/
theorem incDec8 : Obligations.IncDec8 := by
  refine fun i s => ⟨fun r hi => ⟨encodes_of_form hi rfl, _, exec_of_form hi s, ?_⟩,
    fun r hi => ⟨encodes_of_form hi rfl, _, exec_of_form hi s, ?_⟩, fun hi => ⟨encodes_of_form hi rfl, fun v hv => ?_⟩,
    fun hi => ⟨encodes_of_form hi rfl, fun v hv => ?_⟩, ?_⟩
  · rw [inc8_eq]
    exact s.setReg_putFlags _ r
  · rw [dec8_eq]
    exact s.setReg_putFlags _ r
  · have hmodify := exec_modify_ok (o := (inc8 · s.cf)) (exec_of_form hi s) hv
    rwa [inc8_eq] at hmodify
  · have hmodify := exec_modify_ok (o := (dec8 · s.cf)) (exec_of_form hi s) hv
    rwa [dec8_eq] at hmodify
  · rintro (hi | hi) r hr
    all_goals exact (exec_withRead (exec_of_form hi s)).2 r hr

/-- Settles O44: `DAA` read on numbers. -/
theorem decimalAdjust : Obligations.DecimalAdjust := by
  rintro s _ _ _ rfl rfl rfl
  obtain ⟨t, ht, hframe, ha, hflags⟩ := exec_daa s
  exact ⟨encodes_of_form (i := .daa) rfl rfl, t, ht, hframe, ha ▸ daa8_val rfl rfl, ha ▸ hflags⟩

/-- Settles O45: `DAA` sees the accumulator and the flags of the `ADD8` or `SUB8` before it. -/
theorem decimalArithmetic : Obligations.DecimalArithmetic := by
  rintro i s t op x y _ hx hy ha hoperand ht rfl
  obtain rfl : s.alu op (bcd y) = t := Host.Outcome.next.inj ((exec_alu_ok hoperand).symm.trans ht)
  refine ⟨fun hop n hn => ?_, fun hop n hn => ?_⟩
  all_goals
    have hcp : op ≠ .cp := by rintro rfl; simp at hop
    obtain ⟨u, hu, hua, huc⟩ := exec_daa_alu s (bcd y) hcp
    rw [← toNat_decide_and] at hn
  · rw [ha, aluOut_add hop] at hua huc
    obtain ⟨hval, hcarry⟩ := daa_add8_bcd hx hy hn
    exact ⟨u, hu, hua.trans hval, huc.trans hcarry⟩
  · rw [ha, aluOut_sub (hop.imp_right .inl)] at hua huc
    obtain ⟨hval, hborrow⟩ := daa_sub8_bcd hx hy hn
    exact ⟨u, hu, hua.trans hval, huc.trans hborrow⟩

/-- Settles O46: each writes the four flags, and `CPL` complements A. -/
theorem cplScfCcf : Obligations.CplScfCcf := fun s =>
  ⟨⟨encodes_of_form (i := .cpl) rfl rfl, _, rfl, rfl, BitVec.xor_allOnes, (s.flagsAre_setFlags ..).congr rfl⟩,
    ⟨encodes_of_form (i := .scf) rfl rfl, _, rfl, rfl, s.flagsAre_setFlags ..⟩,
    ⟨encodes_of_form (i := .ccf) rfl rfl, _, rfl, rfl, s.flagsAre_setFlags ..⟩⟩

end Sys2Proof.Machine

/-! ## 16-bit arithmetic (44_alu16.md) -/

namespace Sys2Proof.Machine

/-- `DEC16` adds -1 (40_engine_and_alu_primitives.md R118). -/
theorem dec16_eq_add (w : Word) : dec16 w = w + -1 := BitVec.sub_eq_add_neg w 1

/-! ### The statements of the family -/

/-- Settles O47: the form writes the value and the flags of one `ADD16` (40_engine_and_alu_primitives.md R119), and HL read back from
its bytes is that value. -/
theorem addHl : Obligations.AddHl := by
  intro i s p w hi hw
  obtain rfl : w = s.getPair p := hw.trans (by cases p <;> rfl)
  have hflags := s.flagsAre_putFlags (add16 s.hl (s.getPair p))
  refine ⟨encodes_of_form hi rfl, _, exec_of_form hi s, rfl, ?_, hflags.congr rfl⟩
  exact (congrArg BitVec.toNat (joinBytes_hiByte_loByte _)).trans (BitVec.toNat_ofNat ..)

/-- Settles O48: both forms add a constant to the pair; a pair is its two bytes. -/
theorem incDec16 : Obligations.IncDec16 := by
  rintro i s p delta w bytes L N h rfl
  obtain ⟨henc, hexec⟩ : Encodes i bytes L N ∧ exec i s = .next (s.setPair p (s.getPair p + delta)) := by
    obtain ⟨hi, rfl, ⟨⟩⟩ | ⟨hi, rfl, ⟨⟩⟩ := h
    · exact ⟨encodes_of_form hi rfl, exec_of_form hi s⟩
    · rw [← dec16_eq_add]
      exact ⟨encodes_of_form hi rfl, exec_of_form hi s⟩
  refine ⟨henc, hexec.trans ?_⟩
  cases p <;> rfl

end Sys2Proof.Machine

/-! ## Rotates of the accumulator (45_rotate_a.md) -/

namespace Sys2Proof.Machine

/-! ### Rotates and shifts as arithmetic -/

/-- A slice of a byte as arithmetic, where `BitVec.extractLsb'_toNat` has a shift. -/
theorem toNat_slice (v : Byte) (lo len : Nat) : (v.extractLsb' lo len).toNat = v.toNat / 2 ^ lo % 2 ^ len := by
  rw [BitVec.extractLsb'_toNat, Nat.shiftRight_eq_div_pow]

/-- The value of each operation is two slices side by side, or a slice and one bit (48_cb_prefixed.md R236 to R251). -/
theorem rotVal_toNat (op : RotOp) (v : Byte) (cin : Bool) : (rotVal op v cin).toNat = rotNat op v.toNat cin.toNat := by
  have hv := v.isLt
  have hcin := cin.toNat_le
  have hbit7 : v.toNat / 128 = 0 ∨ v.toNat / 128 = 1 := by omega
  cases op
  all_goals
    simp only [rotVal, rotNat]
    rw [toNat_append_eq_add]
    simp only [toNat_slice, BitVec.toNat_ofBool, BitVec.toNat_ofNat]
    omega

/-- C receives bit 7 in a rotate or shift to the left and bit 0 in one to the right (48_cb_prefixed.md R236 to R251). -/
theorem rotOut_eq (op : RotOp) (v : Byte) : rotOut op v = rotCarry op v.toNat := by
  have hv := v.isLt
  have hbit0 : v.getLsbD 0 = (v.toNat % 2 == 1) := by
    rw [BitVec.getLsbD, Nat.testBit_zero]
    rfl
  have hbit7 : v.getLsbD 7 = (v.toNat / 128 == 1) := by
    rw [BitVec.getLsbD, Nat.testBit_eq_decide_div_mod_eq, Nat.mod_eq_of_lt (by omega)]
    rfl
  cases op
  case rlc | rl | sla => exact hbit7
  case rrc | rr | sra | srl => exact hbit0
  case swap => rfl

/-! ### The statement of the family -/

/-- A rotate of A writes A and the flags alone: the rotated value, the bit shifted out in C, Z cleared (R205 to R208). -/
theorem rotateA_next (op : RotOp) (s : State) : ∃ t, rotateA op s = .next t ∧ t = { s with a := t.a, f := t.f } ∧
    t.a.toNat = rotNat op s.a.toNat s.cf.toNat ∧ t.flagsAre false false false (rotCarry op s.a.toNat) := by
  have hflags := s.flagsAre_putFlags (rotA8 op s.a s.cf)
  refine ⟨_, rfl, rfl, rotVal_toNat op s.a s.cf, ?_⟩
  rw [← rotOut_eq]
  exact hflags.congr rfl

namespace RotateA

/-- Settles O49: the four forms are one rotate of A. -/
theorem rotateA : Obligations.RotateA := by
  intro i s op bytes L N h
  obtain ⟨henc, hexec⟩ : Encodes i bytes L N ∧ exec i s = Machine.rotateA op s := by
    obtain ⟨rfl, rfl, ⟨⟩⟩ | ⟨rfl, rfl, ⟨⟩⟩ | ⟨rfl, rfl, ⟨⟩⟩ | ⟨rfl, rfl, ⟨⟩⟩ := h
    all_goals exact ⟨encodes_of_form rfl rfl, exec_of_form rfl s⟩
  exact ⟨henc, hexec ▸ rotateA_next op s⟩

end RotateA

end Sys2Proof.Machine

/-! ## Jumps, calls and returns (46_control.md) -/

namespace Sys2Proof.Machine

/-! ### Conditional forms -/

section
variable {i : Instr} {s : State} {cc : Cond} {r : Result}

/-- A conditional instruction whose condition holds does what the unconditional one does (R221). -/
theorem exec_of_cond (h : exec i s = if s.cond cc then r else .next s) (hc : s.cond cc = true) : exec i s = r :=
  h.trans (if_pos hc)

/-- A conditional instruction whose condition fails does nothing (R221). -/
theorem exec_of_not_cond (h : exec i s = if s.cond cc then r else .next s) (hc : ¬s.cond cc = true) : exec i s = .next s :=
  h.trans (if_neg hc)

end

/-! ### The restart targets -/

theorem rstTarget_toNat (n : Bit3) : (rstTarget n).toNat = 8 * n.val := by
  cases n <;> rfl

/-! ### The statements of the family -/

/-- Settles O54: each form is one jump, made by the conditional forms when the condition on Z or C holds. -/
theorem jumps : Obligations.Jumps := by
  refine fun i s => ⟨fun nn hi => ⟨encodes_of_form hi rfl, exec_of_form hi s⟩,
    fun hi => ⟨encodes_of_form hi rfl, exec_of_form hi s⟩, fun e hi => ⟨encodes_of_form hi rfl, exec_of_form hi s⟩,
    fun cc taken htaken => ?_⟩
  have hcond : taken ↔ s.cond cc = true := by
    rw [htaken]
    cases cc <;> simp [State.cond]
  rw [hcond]
  exact ⟨fun nn hi => ⟨encodes_of_form hi rfl, exec_of_cond (exec_of_form hi s), exec_of_not_cond (exec_of_form hi s)⟩,
    fun e hi => ⟨encodes_of_form hi rfl, exec_of_cond (exec_of_form hi s), exec_of_not_cond (exec_of_form hi s)⟩⟩

/-- Settles O55: each form is one push of `PC`, and `SP` and `PC` move in what follows its two writes. -/
theorem calls : Obligations.Calls := by
  refine fun i s target => ⟨fun cc hi => ⟨encodes_of_form hi rfl, fun hc => ?_⟩, fun hi => encodes_of_form hi rfl,
    fun n hi => encodes_of_form hi rfl, fun h => ?_⟩
  · exact exec_of_not_cond (exec_of_form hi s) (Bool.eq_false_iff.1 hc)
  · have hcall : exec i s = callTo target s := by
      obtain hi | ⟨cc, hi, hc⟩ | ⟨n, hi, hn⟩ := h
      · exact exec_of_form hi s
      · exact exec_of_cond (exec_of_form hi s) hc
      · obtain rfl : target = rstTarget n := BitVec.eq_of_toNat_eq (hn.trans (rstTarget_toNat n).symm)
        exact exec_of_form hi s
    exact exec_withWrites hcall

/-- Settles O56: each form is one pop, and `SP` and `PC` move in what follows its two reads. -/
theorem returns : Obligations.Returns := by
  refine fun i s => ⟨fun cc hi => ⟨encodes_of_form hi rfl, fun hc => ?_⟩, encodes_of_form (i := .ret) rfl rfl,
    encodes_of_form (i := .reti) rfl rfl, fun h => ?_⟩
  · exact exec_of_not_cond (exec_of_form hi s) (Bool.eq_false_iff.1 hc)
  · have hreturn : exec i s = returnFrom s := by
      obtain rfl | rfl | ⟨cc, hi, hc⟩ := h
      · rfl
      · rfl
      · exact exec_of_cond (exec_of_form hi s) hc
    exact exec_withReads hreturn

end Sys2Proof.Machine

/-! ## System instructions, the prefix byte and the opcodes without a handler (47_system.md) -/

namespace Sys2Proof.Machine

section
variable {i : Instr}

/-- A hole is known by its opcode byte, in its form and in the grid (30_encoding.md R89). -/
theorem form_and_primary_of_isHole (h : i.isHole = true) : ∃ op, i.form = .undef op ∧ primary op = .hole i := by
  obtain ⟨op, henc, hp⟩ := primary_of_isHole h
  unfold Instr.isHole at h
  split at h
  case h_1 op' hform =>
    obtain rfl : op' = op := (List.cons.inj ((congrArg Form.encode hform).symm.trans henc)).1
    exact ⟨op', hform, hp⟩
  case h_2 => cases h

/-- No counts where the form declares no cycle count (30_encoding.md R86). -/
theorem counts_eq_none (h : formCycles i.form = none) : counts i = none := by
  rw [counts_eq, h, Option.map_none]

end

/-- The fetch and dispatch of the prefix byte are one host `Step` (R230, 40_engine_and_alu_primitives.md R103). -/
theorem engineStep_prefixByte {s : State} (hready : s.ready = true) (hop : s.readByte s.pc = .ok prefixByte) :
    engineStep none s = .next (.fetching, ({ s with pc := s.pc + 1 } : State).setCur (.first prefixByte)) :=
  calc engineStep none s = s.fetchThen dispatchOpcode := engineStep_of_ready hready none
    _ = dispatchOpcode prefixByte { s with pc := s.pc + 1 } := by simp only [State.fetchThen, State.fetchByte, hop]
    _ = settleRecord (.first prefixByte) _ := dispatchOpcode_not_hole rfl _
    _ = _ := settleRecord_of_noDesc rfl _

/-! ### The statements of the family -/

/-- Settles O57: the effect of each of the five forms is the state itself. -/
theorem noEffectInstructions : Obligations.NoEffectInstructions := fun s =>
  ⟨⟨encodes_of_form (i := .nop) rfl rfl, exec_of_form (i := .nop) rfl s⟩,
    fun n => ⟨encodes_of_form (i := .stop n) rfl rfl, exec_of_form (i := .stop n) rfl s⟩,
    ⟨encodes_of_form (i := .halt) rfl rfl, exec_of_form (i := .halt) rfl s⟩,
    ⟨encodes_of_form (i := .di) rfl rfl, exec_of_form (i := .di) rfl s⟩,
    ⟨encodes_of_form (i := .ei) rfl rfl, exec_of_form (i := .ei) rfl s⟩⟩

/-- Settles O58: a hole by its form and its entry of the grid; the prefix byte by the one `Step` that fetches it. -/
theorem holesAndPrefix : Obligations.HolesAndPrefix := by
  refine ⟨fun i s hi => ?_, fun s => ?_, fun s t hready hop h => ?_⟩
  · obtain ⟨op, hform, hp⟩ := form_and_primary_of_isHole hi
    exact ⟨op, congrArg Form.encode hform, counts_eq_none (by rw [hform]; rfl),
      (primary_isHole_iff op).1 (by rw [hp]; rfl), exec_of_form hform s⟩
  · exact ⟨.first prefixByte, exec_of_form (i := .prefixCb) rfl s, rfl, rfl, rfl, rfl, rfl, rfl⟩
  · cases (engineStep_prefixByte hready hop).symm.trans h
    exact exec_of_form (i := .prefixCb) rfl _

end Sys2Proof.Machine

/-! ## The secondary-prefixed instructions (48_cb_prefixed.md) -/

namespace Sys2Proof.Machine

/-! ### The operations as arithmetic -/

/-- A rotate, shift or SWAP as arithmetic on 0 to 255 (R236 to R251). -/
theorem rot8_eq (op : RotOp) (v : Byte) (cin : Bool) : rot8 op v cin =
    { val := BitVec.ofNat 8 (rotNat op v.toNat cin.toNat)
      z := decide (BitVec.ofNat 8 (rotNat op v.toNat cin.toNat) = 0), n := false, h := false
      c := rotCarry op v.toNat } := by
  have hval : rotVal op v cin = BitVec.ofNat 8 (rotNat op v.toNat cin.toNat) := by
    rw [← rotVal_toNat, BitVec.ofNat_toNat, BitVec.setWidth_eq]
  rw [rot8, hval, rotOut_eq, Bool.beq_eq_decide_eq]

/-- A bit of a byte as arithmetic. -/
theorem getLsbD_eq_decide (v : Byte) (b : Nat) : v.getLsbD b = decide (v.toNat / 2 ^ b % 2 = 1) := by
  rw [BitVec.getLsbD, Nat.testBit_eq_decide_div_mod_eq]

/-- `BIT` sets Z when the bit is 0 (R252, R253). -/
theorem bitTest_eq (b : Nat) (v : Byte) (c : Bool) :
    bitTest b v c = { val := v, z := decide (v.toNat / 2 ^ b % 2 = 0), n := false, h := true, c := c } := by
  rw [bitTest, getLsbD_eq_decide, ← decide_not]
  simp only [Nat.mod_two_not_eq_one]

/-- The bits of a byte inside a mask and those outside it add up to it. -/
theorem toNat_and_add_toNat_and_not (v m : Byte) : (v &&& m).toNat + (v &&& ~~~m).toNat = v.toNat := by
  have hdisjoint : v &&& m &&& (v &&& ~~~m) = 0#8 := by
    ext k
    simp +contextual
  have hor : v &&& m ||| v &&& ~~~m = v := by
    ext k
    cases h : m[k] <;> simp [h]
  rw [← BitVec.toNat_add_of_and_eq_zero hdisjoint, BitVec.add_eq_or_of_and_eq_zero _ _ hdisjoint, hor]

/-- Setting the bits of a mask adds it to the bits outside it. -/
theorem toNat_or_eq_add (v m : Byte) : (v ||| m).toNat = m.toNat + (v &&& ~~~m).toNat := by
  have hinside : (v ||| m) &&& m = m := by
    ext k
    cases h : m[k] <;> simp [h]
  have houtside : (v ||| m) &&& ~~~m = v &&& ~~~m := by
    ext k
    cases h : m[k] <;> simp [h]
  rw [← toNat_and_add_toNat_and_not (v ||| m) m, hinside, houtside]

section
variable (b : Bit3) (v : Byte)

/-- The mask of a bit is its weight (R254, R256). -/
theorem toNat_bitMask : (bitMask b.val).toNat = 2 ^ b.val := by
  cases b <;> rfl

/-- The bit under its mask is its weight or 0. -/
theorem toNat_and_bitMask : (v &&& bitMask b.val).toNat = 2 ^ b.val * (v.toNat / 2 ^ b.val % 2) := by
  have hmask : v &&& bitMask b.val = if v.getLsbD b.val then bitMask b.val else 0#8 := BitVec.and_twoPow v b.val
  rw [hmask, getLsbD_eq_decide]
  obtain hbit | hbit := Nat.mod_two_eq_zero_or_one (v.toNat / 2 ^ b.val)
  · rw [hbit, decide_eq_false Nat.zero_ne_one, if_neg Bool.false_ne_true, Nat.mul_zero]
    rfl
  · rw [hbit, decide_eq_true rfl, if_pos rfl, toNat_bitMask, Nat.mul_one]

/-- `RES` takes the weight of the bit away where the bit is set (R254, R255). -/
theorem resBit_eq : resBit b.val v = BitVec.ofNat 8 (v.toNat - 2 ^ b.val * (v.toNat / 2 ^ b.val % 2)) := by
  have hsum := toNat_and_add_toNat_and_not v (bitMask b.val)
  rw [← toNat_and_bitMask, ← hsum, Nat.add_sub_cancel_left, BitVec.ofNat_toNat, BitVec.setWidth_eq]
  rfl

/-- `SET` adds the weight of the bit where the bit is clear (R256, R257). -/
theorem setBit_eq : setBit b.val v = BitVec.ofNat 8 (v.toNat + 2 ^ b.val * (1 - v.toNat / 2 ^ b.val % 2)) := by
  have hsum := toNat_and_add_toNat_and_not v (bitMask b.val)
  have hset := toNat_or_eq_add v (bitMask b.val)
  rw [toNat_and_bitMask] at hsum
  rw [toNat_bitMask] at hset
  have hval : (setBit b.val v).toNat = v.toNat + 2 ^ b.val * (1 - v.toNat / 2 ^ b.val % 2) := by
    rw [setBit, hset]
    obtain hbit | hbit := Nat.mod_two_eq_zero_or_one (v.toNat / 2 ^ b.val)
    all_goals
      rw [hbit] at hsum ⊢
      omega
  rw [← hval, BitVec.ofNat_toNat, BitVec.setWidth_eq]

end

/-! ### What the instructions of the family are -/

section
variable {i : Instr} {s : State}

/-- An instruction that ends in a write of the flags writes `F` alone in the state before it. -/
theorem exec_putFlags {u : State} {o : Flagged 8} (h : exec i s = .next (u.putFlags o)) :
    ∃ t, exec i s = .next t ∧ t = { u with f := t.f } ∧ t.flagsAre o.z o.n o.h o.c :=
  ⟨_, h, rfl, u.flagsAre_putFlags o⟩

/-- A byte read and another written in its place: the two ends of the write (R235). -/
theorem exec_rewrite {a : Word} {g : Byte → Byte} {k : Byte → State → Result}
    (h : exec i s = s.withRead a fun u => s.withWrite a (g u) (k u)) {u : Byte} (hu : s.readByte a = .ok u) :
    (∀ s1, s.writeByte a (g u) = .ok s1 → exec i s = k u s1) ∧
    (∀ r, s.writeByte a (g u) = .error r → exec i s = .next { s with fault := some r }) :=
  exec_withWrite ((exec_withRead h).1 u hu)

end

/-! ### The statements of the family -/

/-- Settles O50: the rotated value read as arithmetic, then the flags. -/
theorem rotateRegister : Obligations.RotateRegister := by
  rintro i s op r v hi rfl
  have hexec := exec_putFlags (exec_of_form hi s)
  rw [rot8_eq] at hexec
  exact ⟨encodes_of_form hi rfl, hexec⟩

/-- Settles O51: the byte at HL is read and written, and the flags come after the write. -/
theorem rotateAtHl : Obligations.RotateAtHl := by
  refine fun i s op hi => ⟨encodes_of_form hi rfl, (exec_withRead (exec_of_form hi s)).2, ?_⟩
  rintro u v hu rfl
  obtain ⟨hok, herror⟩ := exec_rewrite (g := fun u => (rot8 op u s.cf).val) (exec_of_form hi s) hu
  simp only [rot8_eq] at hok herror
  exact ⟨fun s1 hs1 => exec_putFlags (hok s1 hs1), herror⟩

/-- Settles O52: both forms write the flags of `BIT`, after the read for the byte at HL. -/
theorem testBit : Obligations.TestBit := by
  refine fun i s b => ⟨fun r hi => ⟨encodes_of_form hi rfl, ?_⟩, fun hi => ⟨encodes_of_form hi rfl, ?_⟩⟩
  · have hexec := exec_putFlags (exec_of_form hi s)
    rwa [bitTest_eq] at hexec
  · obtain ⟨hok, herror⟩ := exec_withRead (exec_of_form hi s)
    simp only [bitTest_eq] at hok
    exact ⟨fun v hv => exec_putFlags (hok v hv), herror⟩

/-- Settles O53: each form puts the changed byte where it was read, whether the bit was so already or not. -/
theorem resetSetBit : Obligations.ResetSetBit := by
  refine fun i s b => ⟨fun r hi => ⟨encodes_of_form hi rfl, ?_⟩, fun r hi => ⟨encodes_of_form hi rfl, ?_⟩, ?_, ?_⟩
  · rintro _ rfl
    rw [← resBit_eq]
    exact exec_of_form hi s
  · rintro _ rfl
    rw [← setBit_eq]
    exact exec_of_form hi s
  · rintro u v bytes L N hu (⟨hi, rfl, ⟨⟩⟩ | ⟨hi, rfl, ⟨⟩⟩)
    · rw [← resBit_eq]
      exact ⟨encodes_of_form hi rfl, exec_rewrite (exec_of_form hi s) hu⟩
    · rw [← setBit_eq]
      exact ⟨encodes_of_form hi rfl, exec_rewrite (exec_of_form hi s) hu⟩
  · rintro r hr (hi | hi)
    all_goals exact (exec_withRead (exec_of_form hi s)).2 r hr

end Sys2Proof.Machine

/-! ## The fault latch and `Reset` (60_exceptions.md, 70_reset_and_hazards.md) -/

namespace Sys2Proof.Machine

/-! ### A latched fault -/

section
variable {s : State} {r : FaultRecord}

/-- A step on a set latch answers its record (60_exceptions.md R263). -/
theorem step_of_latched (hc : s.hasCartridge = true) (hf : s.fault = some r) : step s = .fault (.latched r) := by
  simp only [step, hc, hf, if_true]

theorem engineStep_of_latched (hc : s.hasCartridge = true) (hf : s.fault = some r) (inj : Option Byte) :
    engineStep inj s = .fault (.latched r) := by
  simp only [engineStep, hc, hf, if_true]

/-- Latched, a host `Step` answers no next state, with a cartridge or without (60_exceptions.md R263, 70_reset_and_hazards.md R290). -/
theorem stepCommand_ne_next_of_latched (hf : s.fault = some r) (inj : Option Byte) (p : Response × State) :
    stepCommand inj s ≠ .next p := by
  intro h
  obtain ⟨q, hq⟩ := stepCommand_next h
  cases hc : s.hasCartridge with
  | false => cases (engineStep_of_noCartridge hc inj).symm.trans hq
  | true => cases (engineStep_of_latched hc hf inj).symm.trans hq

end

/-! ### `Reset` -/

/-- What `Reset` answers on a loaded cartridge (70_reset_and_hazards.md R290). -/
theorem reset_of_hasCartridge {s : State} (hc : s.hasCartridge = true) : applyCommand .reset s = .next (.done, s.doReset) := by
  simp only [applyCommand, hc, if_true]

/-- The 31 seeded cells are different cells (70_reset_and_hazards.md R292). -/
theorem resetSeeds_pairwise : Config.resetSeeds.Pairwise fun c d => c.1 ≠ d.1 := by decide

section
variable {ram : List Host.Cell}

/-- The seeding leaves every other cell alone (70_reset_and_hazards.md R292). -/
theorem read_seeded_of_not_mem {a : Nat} (h : a ∉ Config.resetSeeds.map Prod.fst) :
    Cells.read (Cells.writeAll ram Config.resetSeeds) a = Cells.read ram a :=
  Cells.read_writeAll_of_not_mem _ ram fun _ hc e => h (e ▸ List.mem_map_of_mem hc)

/-- A seeded cell holds its value (70_reset_and_hazards.md R292). -/
theorem read_seeded_of_mem (hw : Cells.wf Config.ramBase Config.spaceSize ram = true) {c : Host.Cell} (hc : c ∈ Config.resetSeeds) :
    Cells.read (Cells.writeAll ram Config.resetSeeds) c.1 = c.2 :=
  Cells.read_writeAll_of_mem _ hw resetSeeds_bounds resetSeeds_pairwise hc

end

section
variable (s : State) {a : Word}

/-- `Reset` leaves ROM space and every RAM cell but the seeded ones reading as before (70_reset_and_hazards.md R292, R295). -/
theorem State.readByte_doReset_of_not_mem (h : a.toNat ∉ Config.resetSeeds.map Prod.fst) : s.doReset.readByte a = s.readByte a := by
  obtain hrom | hram := Nat.lt_or_ge a.toNat Config.ramBase
  · exact State.readByte_rom_congr rfl rfl hrom
  · rw [s.doReset.readByte_ram hram, s.readByte_ram hram, State.doReset_ram, read_seeded_of_not_mem h]

/-- After `Reset` a seeded address reads as its value (70_reset_and_hazards.md R292). -/
theorem State.readByte_doReset_of_mem (hw : Cells.wf Config.ramBase Config.spaceSize s.ram = true) {v : Byte}
    (h : (a.toNat, v) ∈ Config.resetSeeds) : s.doReset.readByte a = .ok v := by
  rw [s.doReset.readByte_ram (resetSeeds_bounds _ h).1, State.doReset_ram, read_seeded_of_mem hw h]

end

/-! ### The statements of the family -/

/-- Settles O16: a latched step answers no state, `Reset` clears the latch, and no other command writes it (`hostWritesNoRegister`). -/
theorem latchSticky : Obligations.LatchSticky := by
  refine fun s r hf => ⟨fun hc => ⟨step_of_latched hc hf, engineStep_of_latched hc hf⟩, fun cmd resp t hreset ht => ?_,
    fun hc => ⟨_, reset_of_hasCartridge hc, rfl⟩⟩
  have hstep : cmd ≠ .step := by
    rintro rfl
    exact stepCommand_ne_next_of_latched hf none _ ht
  have hinj (op : Byte) : cmd ≠ .stepInjected op := by
    rintro rfl
    exact stepCommand_ne_next_of_latched hf (some op) _ ht
  have hkeep := (hostWritesNoRegister cmd s t resp hstep hinj hreset ht).1
  exact (congrArg State.fault hkeep).trans hf

/-- Settles O23: every field of `doReset` is a value or untouched, and its reads are those of the seeded RAM. -/
theorem resetEffect : Obligations.ResetEffect := fun s hc =>
  ⟨s.doReset, reset_of_hasCartridge hc, ⟨rfl, rfl, rfl, rfl, rfl, rfl, rfl, rfl, rfl, rfl⟩, ⟨rfl, rfl, rfl⟩,
    ⟨rfl, rfl, rfl, rfl, rfl, rfl, rfl⟩, fun _ => s.readByte_doReset_of_not_mem, fun hw _ _ => s.readByte_doReset_of_mem hw⟩

/-- Settles O24: power-on is `Load` then `Reset`, and its RAM is the seeded RAM_INIT. -/
theorem powerOnState : Obligations.PowerOnState :=
  ⟨fun _ ramInit => ⟨Cells.writeAll ramInit Config.resetSeeds, rfl, fun _ => read_seeded_of_not_mem,
      fun hw => ⟨Cells.wf_writeAll _ hw resetSeeds_bounds, fun _ => read_seeded_of_mem hw⟩⟩,
    fun s image ramInit hv => ⟨s.install image ramInit, load_valid hv s ramInit,
      reset_of_hasCartridge (State.hasCartridge_install hv s ramInit)⟩, rfl⟩

end Sys2Proof.Machine
